-- ==== Sys2Proof/Word.lean ====
section
/-! DEFINITION. The word types of LUXCORE (spec 00_scope.md R14, R15).

Only what the spec treats as bits is a bit vector: bytes on the bus, raw counts, request and response words.
Counts, scales, ratios and coefficients are natural numbers (R14: "an exact natural number (no wrap-around at any width)"). -/

namespace Sys2Proof

/-- A byte on the bus: "Byte is 8 bits" (R15). -/
abbrev Byte := BitVec 8

/-- An unsigned 16-bit raw channel count, or the result of a word read (R14, R56). -/
abbrev Word16 := BitVec 16

/-- A sensor register address, `REG_W` bits held zero-extended to the byte it travels in (R31, R86: `zext_8(reg)`). -/
abbrev RegAddr := BitVec 8

/-- A request word, format REQ (R81). -/
abbrev ReqBits := BitVec 36

/-- The payload of a request word (R81). -/
abbrev Payload := BitVec 32

/-- A response word, format RESP (R84). -/
abbrev RespBits := BitVec 34

end Sys2Proof
end

