-- ==== Sys2Proof/Config.lean ====
section
/-! DEFINITION. The parameter record `cfg` of the spec (00_scope.md R10 to R14) and the free values.

"Every number below that the document does not give is a named parameter. The model takes the parameter record `cfg`
as an argument." The record's TYPE and its constraints stand here; its default VALUES stand in
Sys2Proof/Machine/Defaults.lean. A machine's record is a field of `State` that nothing writes, so a statement about
every state is a statement about every choice of the parameters (notes/assumptions/2.md). -/

namespace Sys2Proof

/-- One entry `(K, B, M)` of a coefficient table (10_state.md R28): threshold, broadband and infrared coefficient. -/
structure Band where
  k : Nat
  b : Nat
  m : Nat
deriving DecidableEq, Repr, Inhabited

/-- A coefficient table: "two ROMs of eight entries each" (R27). Entry 0 here is the spec's band 1. -/
abbrev CoeffTable := Vector Band 8

/-- The parameter record `cfg` (R10 to R13). One field per named parameter, in the order of the spec's tables. -/
structure Cfg where
  /-- `CH_SCALE` (R10). -/
  chScale : Nat
  /-- `RATIO_SCALE` (R10). -/
  ratioScale : Nat
  /-- `LUX_SCALE` (R10). -/
  luxScale : Nat
  /-- `ADDR_W` (R11): width of the bus address identifier. -/
  addrW : Nat
  /-- `COMMAND_BIT` (R11). -/
  commandBit : Byte
  /-- `READ_WORD_BIT` (R11). -/
  readWordBit : Byte
  /-- `REG_W` (R11): width of a register address. -/
  regW : Nat
  /-- `REG_CONTROL` (R11). -/
  regControl : RegAddr
  /-- `REG_TIMING` (R11). -/
  regTiming : RegAddr
  /-- `REG_ID` (R11). -/
  regId : RegAddr
  /-- `REG_CH0_LOW` (R11). -/
  regCh0Low : RegAddr
  /-- `REG_CH1_LOW` (R11). -/
  regCh1Low : RegAddr
  /-- `CTRL_ON` (R11). -/
  ctrlOn : Byte
  /-- `CTRL_OFF` (R11). -/
  ctrlOff : Byte
  /-- `IT_FAST` (R11). -/
  itFast : BitVec 2
  /-- `IT_MEDIUM` (R11). -/
  itMedium : BitVec 2
  /-- `GAIN_LOW_CODE` (R11): the OPEN parameter of 90_conflicts.md C1. -/
  gainLowCode : BitVec 1
  /-- `PKG_CS` (R11). -/
  pkgCs : BitVec 2
  /-- `PKG_TFNCL` (R11). -/
  pkgTfncl : BitVec 2
  /-- `CHSCALE_FAST` (R12, R30). -/
  chscaleFast : Nat
  /-- `CHSCALE_MEDIUM` (R12, R30). -/
  chscaleMedium : Nat
  /-- `TABLE_CS` (R12, R28). -/
  tableCs : CoeffTable
  /-- `TABLE_TFNCL` (R12, R29). -/
  tableTfncl : CoeffTable
  /-- `WAIT_FAST` (R13), in milliseconds. -/
  waitFast : Nat
  /-- `WAIT_MEDIUM` (R13), in milliseconds. -/
  waitMedium : Nat
  /-- `WAIT_DEFAULT` (R13), in milliseconds. -/
  waitDefault : Nat
deriving DecidableEq, Repr

/-- The bits of a command byte that carry the register address, bits `REG_W-1:0` (R11). -/
def Cfg.regMask (c : Cfg) : Byte := BitVec.ofNat 8 (2 ^ c.regW - 1)

/-- `r` is a register address of `REG_W` bits. -/
abbrev Cfg.IsReg (c : Cfg) (r : RegAddr) : Prop := r.toNat < 2 ^ c.regW

/-- "each table is "ordered" [...] so `K1 <= K2 <= ... <= K7` must hold" (R12); `K8` is unconstrained (92 D33). -/
abbrev ascending (t : CoeffTable) : Prop := (t.toList.take 7).Pairwise fun x y => x.k ≤ y.k

/-- The constraints the spec puts on a choice of parameters: R10 (`LUX_SCALE >= 1`), R11 (disjoint bits of the
command byte, different codes, register addresses of `REG_W` bits), R12 (ascending thresholds). The last line is the
model's (DEDUCED, notes/assumptions/3.md): `READ_WORD_BIT` is a bit, and the five named registers are five registers. -/
abbrev Cfg.WF (c : Cfg) : Prop :=
  1 ≤ c.luxScale
    ∧ c.regW ≤ 8
    ∧ c.commandBit &&& c.readWordBit = 0
    ∧ c.commandBit &&& c.regMask = 0
    ∧ c.readWordBit &&& c.regMask = 0
    ∧ c.IsReg c.regControl ∧ c.IsReg c.regTiming ∧ c.IsReg c.regId ∧ c.IsReg c.regCh0Low ∧ c.IsReg c.regCh1Low
    ∧ c.itFast ≠ c.itMedium
    ∧ c.pkgCs ≠ c.pkgTfncl
    ∧ ascending c.tableCs ∧ ascending c.tableTfncl
    ∧ c.readWordBit ≠ 0
    ∧ [c.regControl, c.regTiming, c.regId, c.regCh0Low, c.regCh1Low].Nodup

/-- What the bus collaborator answers to one call (R8, R52): success or failure, and the bytes a read would return,
first byte first. A write looks at `ok` only; a read of `n` bytes takes the first `n` of the two (92 D27). -/
structure Answer where
  ok : Bool
  b0 : Byte
  b1 : Byte
deriving DecidableEq, Repr, Inhabited

namespace Config

/-- FREE VALUE. The answer of the bus collaborator to its `n`-th call, once the answers listed in the state are used
up: "an oracle that answers each `BusWrite` with `ok` or `fail` and each `BusRead(a, n)` with exactly `n` bytes or
`fail`, under no law" (R52). No body: nothing can be proved about it (notes/assumptions/4.md). -/
opaque freeAnswer : Nat → Answer

/-- FREE VALUE. Whether the collaborator LUXCORE waits for, the bus or the delay, has answered when it is looked at for
the `n`-th time, once the looks listed in the state are used up: "A collaborator that never answers hangs the operation
for good" (R241), and `Delay(d)` has "no upper bound" (R205). No body (notes/assumptions/10.md). -/
opaque freeReturn : Nat → Bool

/-- FREE VALUE. The 32-bit `data` of a LUX response whose exact lux does not fit 32 bits, which happens under no
default parameter (R178, R180) and for which the spec states no result (notes/assumptions/5.md). -/
opaque luxTooWide : Nat → BitVec 32

end Config

end Sys2Proof
end

