-- ==== Sys2Proof/Machine/Defaults.lean ====
section
/-! DEFINITION. The default values of the parameters (00_scope.md R10 to R13, 10_state.md R28 to R30).

Of these the document itself gives, as examples, only the three shifts, the approximate waits and the gain code;
the rest is "[from general knowledge, not in source]" in the spec's own words (93 part 2, notes/assumptions/2.md). -/

namespace Sys2Proof

/-- The default content of `TABLE_CS` (R28). -/
def defaultTableCs : CoeffTable :=
  #v[⟨67, 516, 429⟩, ⟨133, 552, 705⟩, ⟨200, 595, 867⟩, ⟨266, 642, 991⟩,
     ⟨333, 375, 477⟩, ⟨410, 257, 295⟩, ⟨666, 55, 43⟩, ⟨666, 0, 0⟩]

/-- The default content of `TABLE_TFNCL` (R29). -/
def defaultTableTfncl : CoeffTable :=
  #v[⟨64, 498, 446⟩, ⟨128, 532, 721⟩, ⟨192, 575, 891⟩, ⟨256, 624, 1022⟩,
     ⟨312, 367, 508⟩, ⟨410, 210, 251⟩, ⟨666, 24, 18⟩, ⟨666, 0, 0⟩]

/-- The default parameter record: "the value this spec uses in every worked example and test vector" (00_scope.md 4). -/
def Cfg.defaults : Cfg where
  chScale := 10
  ratioScale := 9
  luxScale := 14
  addrW := 7
  commandBit := 0x80#8
  readWordBit := 0x20#8
  regW := 4
  regControl := 0x0#8
  regTiming := 0x1#8
  regId := 0xA#8
  regCh0Low := 0xC#8
  regCh1Low := 0xE#8
  ctrlOn := 0x03#8
  ctrlOff := 0x00#8
  itFast := 0b00#2
  itMedium := 0b01#2
  gainLowCode := 1#1
  pkgCs := 0b00#2
  pkgTfncl := 0b01#2
  chscaleFast := 0x7517
  chscaleMedium := 0x0FE7
  tableCs := defaultTableCs
  tableTfncl := defaultTableTfncl
  waitFast := 13
  waitMedium := 101
  waitDefault := 402

/-- The strap value of `ADDR` used for the machine after reset: 0x39, "an arbitrary strap value chosen for the
examples" (40_register_access.md). DESIGN CHOICE, notes/assumptions/6.md: the spec gives the strap no value. -/
def strapAddr : Nat := 0x39

end Sys2Proof
end

