-- ==== Sys2Proof/Syntax.lean ====
section
/-! DEFINITION. The operations of LUXCORE and the words that stand for them (30_encoding.md).

One constructor per row of the opcode table: the ten requests of R82 and the three bus frames of R87 to R89. -/

namespace Sys2Proof

/-- An operation. The first ten are the host's requests (R3, R82); the last three are the bus frames LUXCORE itself
sends (R87, R88, R89), each read as the one register access it is (notes/assumptions/7.md). -/
inductive Instr where
  /-- WRREG `reg`, `value` (R110). -/
  | wrreg (reg : RegAddr) (value : Byte)
  /-- RDREG `reg` (R111). -/
  | rdreg (reg : RegAddr)
  /-- RDREG16 `reg` (R112). -/
  | rdreg16 (reg : RegAddr)
  /-- ENABLE (R130). -/
  | enable
  /-- DISABLE (R131). -/
  | disable
  /-- INIT (R132). -/
  | init
  /-- SETIT `it` (R133). -/
  | setit (it : BitVec 2)
  /-- SETGAIN `g` (R134). -/
  | setgain (g : BitVec 1)
  /-- RDCHAN (R150). -/
  | rdchan
  /-- LUX `raw0`, `raw1` (R160). -/
  | lux (raw0 raw1 : Word16)
  /-- FRAME.WRITE: the two-byte write frame (R87). -/
  | frameWrite (reg : RegAddr) (value : Byte)
  /-- FRAME.READ8: the byte-read frame (R88). -/
  | frameRead8 (reg : RegAddr)
  /-- FRAME.READ16: the word-read frame (R89). -/
  | frameRead16 (reg : RegAddr)
deriving DecidableEq, Repr

/-- A word in one of the two formats of R80: a 36-bit request word, or the bytes of a frame. "Frame length is decided
by the operation, not by anything in the frame" (R94), so the length is part of the word: one byte, or two bytes with
the command byte, sent first, in bits 15:8 (the opcode table's numbering). -/
inductive PortWord where
  | req (w : ReqBits)
  | frame1 (c : Byte)
  | frame2 (f : BitVec 16)
deriving DecidableEq, Repr

/-- Why a word is not an operation. The first two are the two grounds of R92. -/
inductive DecodeError where
  /-- `op` is 0x0 or 0xB to 0xF (R92). -/
  | reservedOp
  /-- "a payload bit that must be 0 is 1" (R92). -/
  | mustBeZero
  /-- The bytes are not a frame LUXCORE sends (R86). -/
  | notAFrame
deriving DecidableEq, Repr

end Sys2Proof
end

