-- ==== Sys2Proof/WellFormed.lean ====
section
/-! DEFINITION. Which operations have an encoding: a register operand is an address of `REG_W` bits (R11, R50).
Every other operand is exactly as wide as its field (92 D14), so its type is the whole check. -/

namespace Sys2Proof

/-- `i` is an operation of the machine with parameters `c`. -/
def Instr.wf (c : Cfg) : Instr → Bool
  | .wrreg reg _ => decide (c.IsReg reg)
  | .rdreg reg => decide (c.IsReg reg)
  | .rdreg16 reg => decide (c.IsReg reg)
  | .enable => true
  | .disable => true
  | .init => true
  | .setit _ => true
  | .setgain _ => true
  | .rdchan => true
  | .lux _ _ => true
  | .frameWrite reg _ => decide (c.IsReg reg)
  | .frameRead8 reg => decide (c.IsReg reg)
  | .frameRead16 reg => decide (c.IsReg reg)

end Sys2Proof
end

