-- ==== Sys2Proof/Decode.lean ====
section
/-! DEFINITION. The decoder and the encoder (30_encoding.md R81 to R92), total on every word.

A request word is decoded by its opcode (R82) and the payload fields of R83; a payload bit the operation does not name
must be 0. `REG_W` is a parameter: "For another `REG_W` the field `reg` is payload[8 + REG_W - 1 : 8] and the masks
change with it" (R83). There is no hint encoding and no custom space: what is no row is refused by name (R92). -/

namespace Sys2Proof

/-- `op` = bits 35:32 of a request word (R81). -/
def opField (w : ReqBits) : BitVec 4 := w.extractLsb' 32 4

/-- `payload` = bits 31:0 of a request word (R81). -/
def payloadField (w : ReqBits) : Payload := w.extractLsb' 0 32

/-- `reg` = payload[8 + REG_W - 1 : 8], zero-extended (R83). Read as a whole byte: an accepted payload has no higher bit. -/
def regField (p : Payload) : RegAddr := p.extractLsb' 8 8

/-- `value` = payload[7:0] (R83). -/
def valueField (p : Payload) : Byte := p.extractLsb' 0 8

/-- `it` = payload[1:0] (R83). -/
def itField (p : Payload) : BitVec 2 := p.extractLsb' 0 2

/-- `g` = payload[4] (R83). -/
def gField (p : Payload) : BitVec 1 := p.extractLsb' 4 1

/-- `raw0` = payload[15:0] (R83). -/
def raw0Field (p : Payload) : Word16 := p.extractLsb' 0 16

/-- `raw1` = payload[31:16] (R83). -/
def raw1Field (p : Payload) : Word16 := p.extractLsb' 16 16

/-- The operation `i`, if the bits that must be 0 are (`zero`), else the refusal of R92. -/
def accepting (zero : Bool) (i : Instr) : Except DecodeError Instr :=
  if zero then .ok i else .error .mustBeZero

/-- No payload bit above the register field is set (R83). -/
def aboveRegZero (c : Cfg) (p : Payload) : Bool := decide (p.toNat < 2 ^ (8 + c.regW))

/-- The decoder of request words (R82, R83, R92). -/
def decodeReq (c : Cfg) (w : ReqBits) : Except DecodeError Instr :=
  let p := payloadField w
  match (opField w).toNat with
  | 0x1 => accepting (aboveRegZero c p) (.wrreg (regField p) (valueField p))
  | 0x2 => accepting (aboveRegZero c p && valueField p == 0#8) (.rdreg (regField p))
  | 0x3 => accepting (aboveRegZero c p && valueField p == 0#8) (.rdreg16 (regField p))
  | 0x4 => accepting (p == 0#32) .enable
  | 0x5 => accepting (p == 0#32) .disable
  | 0x6 => accepting (p == 0#32) .init
  | 0x7 => accepting (decide (p.toNat < 4)) (.setit (itField p))
  | 0x8 => accepting (p &&& 0xFFFFFFEF#32 == 0#32) (.setgain (gField p))
  | 0x9 => accepting (p == 0#32) .rdchan
  | 0xA => .ok (.lux (raw0Field p) (raw1Field p))
  | _ => .error .reservedOp

/-- The decoder of one-byte frames: `cmd(reg, 0)` is a byte read, `cmd(reg, 1)` a word read (R86, R88, R89). -/
def decodeFrame1 (c : Cfg) (b : Byte) : Except DecodeError Instr :=
  let reg := b &&& c.regMask
  if b = c.commandBit ||| reg then .ok (.frameRead8 reg)
  else if b = c.commandBit ||| c.readWordBit ||| reg then .ok (.frameRead16 reg)
  else .error .notAFrame

/-- The decoder of two-byte frames: `[cmd(reg, 0), value]` (R86, R87). -/
def decodeFrame2 (c : Cfg) (f : BitVec 16) : Except DecodeError Instr :=
  let b : Byte := f.extractLsb' 8 8
  let reg := b &&& c.regMask
  if b = c.commandBit ||| reg then .ok (.frameWrite reg (f.extractLsb' 0 8)) else .error .notAFrame

/-- The decoder, total on every word of the two formats (R80, R92). -/
def decode (c : Cfg) : PortWord → Except DecodeError Instr
  | .req w => decodeReq c w
  | .frame1 b => decodeFrame1 c b
  | .frame2 f => decodeFrame2 c f

/-- A word of `nbits` bits numbered as the opcode table numbers it: up to 8 bits the one-byte frames, up to 16 the
two-byte frame, and more the 36-bit request word (its 36 bits in whole bytes are 40, of which the top four are no
wires of the port, R81). -/
def tableWord (nbits w : Nat) : PortWord :=
  if nbits ≤ 8 then .frame1 (BitVec.ofNat 8 w)
  else if nbits ≤ 16 then .frame2 (BitVec.ofNat 16 w)
  else .req (BitVec.ofNat 36 w)

/-- The instruction the decoder reads from a table word, under the default parameters. -/
def decodeTableWord (nbits w : Nat) : Option Instr := (decode Cfg.defaults (tableWord nbits w)).toOption

/-! ### The encoder -/

/-- A request word from its opcode and payload (R81). -/
def reqWord (op : BitVec 4) (p : Payload) : PortWord := .req (op ++ p)

/-- The payload that holds a register address in bits 15:8 and a byte in bits 7:0 (R83). -/
def regPayload (reg : RegAddr) (low : Byte) : Payload := 0#16 ++ (reg ++ low)

/-- The words of a well-formed instruction (R81 to R83, R86 to R89). -/
def encode (c : Cfg) : Instr → PortWord
  | .wrreg reg value => reqWord 0x1#4 (regPayload reg value)
  | .rdreg reg => reqWord 0x2#4 (regPayload reg 0#8)
  | .rdreg16 reg => reqWord 0x3#4 (regPayload reg 0#8)
  | .enable => reqWord 0x4#4 0#32
  | .disable => reqWord 0x5#4 0#32
  | .init => reqWord 0x6#4 0#32
  | .setit it => reqWord 0x7#4 (it.setWidth 32)
  | .setgain g => reqWord 0x8#4 (g.setWidth 32 <<< 4)
  | .rdchan => reqWord 0x9#4 0#32
  | .lux raw0 raw1 => reqWord 0xA#4 (raw1 ++ raw0)
  | .frameWrite reg value => .frame2 ((c.commandBit ||| reg) ++ value)
  | .frameRead8 reg => .frame1 (c.commandBit ||| reg)
  | .frameRead16 reg => .frame1 (c.commandBit ||| c.readWordBit ||| reg)

/-! ### The opcode table as rows -/

/-- A row of R83: "a request word `w` selects the row when `(w & mask) == match`". -/
structure ReqRow where
  mnemonic : String
  pattern : ReqBits
  mask : ReqBits
deriving DecidableEq, Repr

/-- The table of R83, for the default `REG_W = 4`. -/
def reqRows : List ReqRow :=
  [⟨"WRREG", 0x100000000#36, 0xFFFFFF000#36⟩, ⟨"RDREG", 0x200000000#36, 0xFFFFFF0FF#36⟩,
   ⟨"RDREG16", 0x300000000#36, 0xFFFFFF0FF#36⟩, ⟨"ENABLE", 0x400000000#36, 0xFFFFFFFFF#36⟩,
   ⟨"DISABLE", 0x500000000#36, 0xFFFFFFFFF#36⟩, ⟨"INIT", 0x600000000#36, 0xFFFFFFFFF#36⟩,
   ⟨"SETIT", 0x700000000#36, 0xFFFFFFFFC#36⟩, ⟨"SETGAIN", 0x800000000#36, 0xFFFFFFFEF#36⟩,
   ⟨"RDCHAN", 0x900000000#36, 0xFFFFFFFFF#36⟩, ⟨"LUX", 0xA00000000#36, 0xF00000000#36⟩]

/-- `w` selects the row (R83). -/
def ReqRow.selects (r : ReqRow) (w : ReqBits) : Bool := w &&& r.mask == r.pattern

/-- The opcode table's mnemonic of an operation. -/
def Instr.mnemonic : Instr → String
  | .wrreg _ _ => "WRREG"
  | .rdreg _ => "RDREG"
  | .rdreg16 _ => "RDREG16"
  | .enable => "ENABLE"
  | .disable => "DISABLE"
  | .init => "INIT"
  | .setit _ => "SETIT"
  | .setgain _ => "SETGAIN"
  | .rdchan => "RDCHAN"
  | .lux _ _ => "LUX"
  | .frameWrite _ _ => "FRAME.WRITE"
  | .frameRead8 _ => "FRAME.READ8"
  | .frameRead16 _ => "FRAME.READ16"

end Sys2Proof
end

