-- ==== Sys2Proof/Machine/State.lean ====
section
/-! DEFINITION. The state of LUXCORE (10_state.md) and the reasons a step can stop.

LUXCORE's own state is `ADDR`, `G`, `IT`, `PKG`, `busy` and `seq` (R20). It has no memory: "Its only "memory" is the
sensor's register space" (20_memory.md), which lies behind the bus collaborator and whose reads are inputs (R52). So
beside the registers the state holds the inputs (requests, bus answers) and the record of what LUXCORE did (trace,
responses), which are the observable behaviour of R9. -/

namespace Sys2Proof.Machine

/-- The four diagnostics (R191). -/
inductive Diag where
  | busWriteFail
  | busReadFail
  | initPower
  | pkgUnknown
deriving DecidableEq, Repr

/-- One entry of the trace, a collaborator call with its answer (00_scope.md 7, R9): it enters the trace when the call
has been answered. -/
inductive Event where
  /-- `BusWrite(addr, frame)`, and whether the collaborator answered `ok`. -/
  | busWrite (addr : Nat) (frame : List Byte) (ok : Bool)
  /-- `BusRead(addr, n)`, and the bytes answered, or `none` for `fail`. -/
  | busRead (addr : Nat) (n : Nat) (answer : Option (List Byte))
  /-- `Delay(duration)`, in milliseconds. -/
  | delay (duration : Nat)
  /-- `raise Diag(code)`. -/
  | diag (d : Diag)
deriving DecidableEq, Repr

/-- The `status` of a response (R85); the value 3 is never produced and has no constructor. -/
inductive Status where
  | ok
  | busFail
  | refused
deriving DecidableEq, Repr

/-- A response (R84). -/
structure Response where
  status : Status
  data : BitVec 32
deriving DecidableEq, Repr

/-- The local names of the pseudocode, while an operation is in flight. Every operation writes the ones it uses before
it reads them. -/
structure Locals where
  /-- the answer `r` of the last `BusWrite` -/
  ok : Bool := false
  /-- the byte of the last `MemRead(reg, 1)`, `none` when it failed: `c`, `i`, `t`, `v` -/
  byte : Option Byte := none
  /-- the word of the last `MemRead(reg, 2)`, `none` when it failed: `v` -/
  word : Option Word16 := none
  g : BitVec 1 := 0
  it : BitVec 2 := 0
  pkg : BitVec 2 := 0
  ch0 : Word16 := 0
  ch1 : Word16 := 0
  chScale : Nat := 0
  channel0 : Nat := 0
  channel1 : Nat := 0
  ratio : Nat := 0
  b : Nat := 0
  m : Nat := 0
  p0 : Nat := 0
  p1 : Nat := 0
  temp : Nat := 0
  lux : Nat := 0
deriving DecidableEq, Repr

/-- An operation in flight: the accepted request, `seq` ("the index of the next line of the running operation's
pseudocode", R26), whether LUXCORE is blocked inside the call of that line (R152, R209, R241), and the local names. -/
structure Running where
  op : Instr
  seq : Nat := 0
  /-- The collaborator call of the line `seq` has been made and is not answered: LUXCORE "has no step of its own; the
  step that ends the wait belongs to" the collaborator (R152), and one that never answers hangs the operation (R241). -/
  waiting : Bool := false
  loc : Locals := {}
deriving DecidableEq, Repr

/-- The machine state. -/
structure State where
  /-- The parameter record (R10 to R14). Not architectural state (R20): nothing writes it. -/
  cfg : Cfg
  /-- `ADDR`, the bus address identifier, `ADDR_W` bits (R21). Never an operand of arithmetic, so a number. -/
  addr : Nat
  /-- `G`, the stored gain bit (R22). -/
  g : BitVec 1
  /-- `G` has been written since reset (R25). The three flags steer no operation: they say which reads the spec calls
  reads of an unwritten register (notes/assumptions/1.md). -/
  gWritten : Bool
  /-- `IT`, the stored integration-time mode (R23). -/
  it : BitVec 2
  /-- `IT` has been written since reset (R25). -/
  itWritten : Bool
  /-- `PKG`, the stored package code (R24). -/
  pkg : BitVec 2
  /-- `PKG` has been written since reset (R25). -/
  pkgWritten : Bool
  /-- `busy` and `seq` (R26): `some` while an operation is in flight, `none` when idle, where "`seq` has no meaning". -/
  run : Option Running
  /-- Input: the words the host has yet to present, one at a time and only when the block is idle (R81, R207). -/
  requests : List PortWord
  /-- Input: the answers the bus collaborator will give, first call first (R52); after them it answers freely. -/
  answers : List Answer
  /-- The model's own counter of answered bus calls, the argument of the free answers (notes/assumptions/4.md). -/
  calls : Nat
  /-- Input: what is found at each look at the collaborator LUXCORE waits for, the bus or the delay, first look first:
  `true`, it has answered; `false`, not yet (R152, R241). After them it acts freely. -/
  returns : List Bool
  /-- The model's own counter of those looks, the argument of the free ones (notes/assumptions/10.md). -/
  looks : Nat
  /-- Output: the collaborator calls answered, oldest first (R9). -/
  trace : List Event
  /-- Output: the responses given, oldest first (R9, R84). -/
  responses : List Response
deriving DecidableEq, Repr

/-- Why the machine stops with a fault. -/
inductive Fault where
  /-- An operation in flight whose `seq` names no line of its pseudocode. Raised by `step` and the sequencer for a state
  written by hand, and in no state that a run reaches. SAFE: the model stops. -/
  | noSuchLine
deriving DecidableEq, Repr

/-- Why the machine has no meaning for a word. -/
inductive Refusal where
  /-- Raised by `exec` alone, for an instruction that has no meaning yet. SAFE: the model stops. -/
  | notModelled (mnemonic : String)
  /-- Raised by `step` alone, for bytes at the port that are neither a request word nor a frame LUXCORE sends (R86).
  SAFE: the spec has no such move. -/
  | notAFrame
deriving DecidableEq, Repr

/-- `busy` (R26): 1 "from the acceptance of a request to its `respond`". -/
def State.busy (s : State) : Bool := s.run.isSome

/-- The machine right after reset (R41, R220, R221): `G`, `IT` and `PKG` unwritten, `busy = 0`, `ADDR` at its strap
value, no call made, nothing answered. Every register holds a value: the bits of the three unwritten ones are 0 and
`ADDR` is 0x39, DESIGN CHOICE, notes/assumptions/1.md and 6.md. -/
def State.reset : State where
  cfg := Cfg.defaults
  addr := strapAddr
  g := 0
  gWritten := false
  it := 0
  itWritten := false
  pkg := 0
  pkgWritten := false
  run := none
  requests := []
  answers := []
  calls := 0
  returns := []
  looks := 0
  trace := []
  responses := []

end Sys2Proof.Machine
end

