-- ==== Sys2Proof/Machine/Flags.lean ====
section
/-! DEFINITION. Status. "LUXCORE has no status flags, no condition codes and no sticky error bits" (R39): the only
status is the `status` field of one response (R85), and the only error codes are the diagnostics' (R191). -/

namespace Sys2Proof.Machine

/-- The `status` of an operation that is a single register access: OK, or BUSFAIL when it failed (R85). -/
def statusOf (ok : Bool) : Status := if ok then .ok else .busFail

/-- The encoding of `status` (R85). -/
def Status.toBits : Status → BitVec 2
  | .ok => 0
  | .busFail => 1
  | .refused => 2

/-- Format RESP: `status` in bits 33:32, `data` in bits 31:0 (R84). -/
def Response.toWord (r : Response) : RespBits := r.status.toBits ++ r.data

/-- The code the diagnostic sink receives, "the code and nothing else" (R191). -/
def Diag.code : Diag → Nat
  | .busWriteFail => 1
  | .busReadFail => 2
  | .initPower => 3
  | .pkgUnknown => 4

/-- The `data` of an RDCHAN response: "data[15:0] = channel 0, data[31:16] = channel 1" (R84). -/
def channelData (ch0 ch1 : Word16) : BitVec 32 := ch1 ++ ch0

/-- The `data` of a LUX response, `zext_32(lux)` (R178). No lux of the default parameters exceeds 32 bits (R180); what
stands in `data` for one that does, under other parameters, is a free value (notes/assumptions/5.md). -/
def luxData (lux : Nat) : BitVec 32 :=
  if lux < 2 ^ 32 then BitVec.ofNat 32 lux else Config.luxTooWide lux

end Sys2Proof.Machine
end

