-- ==== Sys2Proof/Machine/Operands.lean ====
section
/-! DEFINITION. The operand forms of the operations and the bytes they are assembled into or sliced from
(30_encoding.md R86 to R91, R66), and the meanings of the stored codes (R22, R23, R24). -/

namespace Sys2Proof.Machine

/-- `cmd(reg, W) = COMMAND_BIT | (READ_WORD_BIT if W else 0) | zext_8(reg)` (R86). -/
def cmd (c : Cfg) (reg : RegAddr) (word : Bool) : Byte :=
  c.commandBit ||| (if word then c.readWordBit else 0) ||| reg

/-- The write frame `[cmd(reg, 0), value]` (R87). -/
def writeFrame (c : Cfg) (reg : RegAddr) (value : Byte) : List Byte := [cmd c reg false, value]

/-- The byte-read frame `[cmd(reg, 0)]` (R88). -/
def readFrame8 (c : Cfg) (reg : RegAddr) : List Byte := [cmd c reg false]

/-- The word-read frame `[cmd(reg, 1)]` (R89). -/
def readFrame16 (c : Cfg) (reg : RegAddr) : List Byte := [cmd c reg true]

/-- `timing(g, it) = (zext_8(g) << 4) | zext_8(it)` (R90). -/
def timing (g : BitVec 1) (it : BitVec 2) : Byte := (g.setWidth 8 <<< 4) ||| it.setWidth 8

/-- The power bit `c[0]` of the CONTROL byte (R91). -/
def powerBit (c : Byte) : BitVec 1 := c.extractLsb' 0 1

/-- The package code `i[7:6]` of the identification byte (R91). -/
def pkgField (i : Byte) : BitVec 2 := i.extractLsb' 6 2

/-- The gain bit `t[4]` of the TIMING byte (R91). -/
def gainField (t : Byte) : BitVec 1 := t.extractLsb' 4 1

/-- The mode `t[1:0]` of the TIMING byte (R91). -/
def modeField (t : Byte) : BitVec 2 := t.extractLsb' 0 2

/-- The 16-bit value `d1 ++ d0` of the two bytes of a word read, low byte first (R56, R57, R91). -/
def wordOf (d0 d1 : Byte) : Word16 := d1 ++ d0

/-- The value of a register read: "read operations substitute a zero/default value and continue" (R66). -/
def orZero {n : Nat} (r : Option (BitVec n)) : BitVec n := r.getD 0

/-- The integration-time modes (R23). -/
inductive Mode where
  | fast
  | medium
  | default
deriving DecidableEq, Repr

/-- The mode a code means: fast, medium, and default for both remaining codes (R23). -/
def modeOf (c : Cfg) (it : BitVec 2) : Mode :=
  if it = c.itFast then .fast else if it = c.itMedium then .medium else .default

/-- "the gain is low exactly when `x[G] == GAIN_LOW_CODE`" (R22). -/
def gainIsLow (c : Cfg) (g : BitVec 1) : Bool := g == c.gainLowCode

/-- The package kinds (R24). -/
inductive Package where
  | cs
  | tfncl
  | unknown
deriving DecidableEq, Repr

/-- The kind a package code means: CS, T/FN/CL, and unknown for both remaining codes (R24). -/
def packageOf (c : Cfg) (pkg : BitVec 2) : Package :=
  if pkg = c.pkgCs then .cs else if pkg = c.pkgTfncl then .tfncl else .unknown

end Sys2Proof.Machine
end

