-- ==== Sys2Proof/Machine/Ops.lean ====
section
/-! DEFINITION. The shared operations: collaborator calls (R8, R16), register access (R54 to R56), the device registers
(R21 to R25), the diagnostic (R190, R201) and the response (R84, R92).

LUXCORE has no traps: "nothing diverts control, nothing is saved, nothing is returned from" (60_exceptions.md). What
stands in the place of taking an exception is `State.diag`, and there is no return (R202). -/

namespace Sys2Proof.Machine

namespace State

/-! ### Collaborator calls

Each is the call as it stands once the collaborator has answered, which takes the look that finds it so. While it has
not, LUXCORE waits: Sys2Proof/Machine/Lines.lean. -/

/-- The trace grows by one event. -/
def emit (s : State) (e : Event) : State := { s with trace := s.trace ++ [e] }

/-- The answer the bus collaborator gives to the next call (R52). -/
def nextAnswer (s : State) : Answer :=
  match s.answers with
  | a :: _ => a
  | [] => Config.freeAnswer s.calls

/-- Whether the collaborator LUXCORE waits for is found to have answered at the next look (R152, R241). -/
def returnsNow (s : State) : Bool :=
  match s.returns with
  | a :: _ => a
  | [] => Config.freeReturn s.looks

/-- The collaborator has been looked at once. -/
def looked (s : State) : State := { s with returns := s.returns.tail, looks := s.looks + 1 }

/-- One bus call has been answered. -/
def answered (s : State) : State := { s.looked with answers := s.answers.tail, calls := s.calls + 1 }

/-- `BusWrite(x[ADDR], frame) -> ok | fail` (R8, R21). -/
def busWrite (s : State) (frame : List Byte) : Bool × State :=
  (s.nextAnswer.ok, s.answered.emit (.busWrite s.addr frame s.nextAnswer.ok))

/-- What a read of `n` bytes gets out of an answer: "exactly `n` bytes or `fail`" (R52, 92 D27). -/
def bytesRead (a : Answer) (n : Nat) : Option (List Byte) := if a.ok then some ([a.b0, a.b1].take n) else none

/-- `BusRead(x[ADDR], n) -> [d0, ..., d(n-1)] | fail` (R8, R21). -/
def busRead (s : State) (n : Nat) : Option (List Byte) × State :=
  (bytesRead s.nextAnswer n, s.answered.emit (.busRead s.addr n (bytesRead s.nextAnswer n)))

/-- `Delay(d)` (R8, R205); only its argument is seen (R240). -/
def delay (s : State) (d : Nat) : State := s.looked.emit (.delay d)

/-- `raise Diag(code)`: "it returns at once, the next line runs, no state is written" (R190, R201). -/
def diag (s : State) (d : Diag) : State := s.emit (.diag d)

/-! ### Register access -/

/-- `MemWrite(reg, 1, v) -> ok | fail` (R54). -/
def memWrite (s : State) (reg : RegAddr) (v : Byte) : Bool × State :=
  let r := s.busWrite (writeFrame s.cfg reg v)
  if r.1 then r else (false, r.2.diag .busWriteFail)

/-- `MemRead(reg, 1)` (R55): the byte read, or `none` where the read failed and raised `BUS_READ_FAIL`. -/
def memRead8 (s : State) (reg : RegAddr) : Option Byte × State :=
  let r := s.busWrite (readFrame8 s.cfg reg)
  if r.1 then
    let d := r.2.busRead 1
    match d.1 with
    | some (d0 :: _) => (some d0, d.2)
    | _ => (none, d.2.diag .busReadFail)
  else (none, r.2.diag .busReadFail)

/-- `MemRead(reg, 2)` (R56): the word read, or `none` where the read failed and raised `BUS_READ_FAIL`. -/
def memRead16 (s : State) (reg : RegAddr) : Option Word16 × State :=
  let r := s.busWrite (readFrame16 s.cfg reg)
  if r.1 then
    let d := r.2.busRead 2
    match d.1 with
    | some (d0 :: d1 :: _) => (some (wordOf d0 d1), d.2)
    | _ => (none, d.2.diag .busReadFail)
  else (none, r.2.diag .busReadFail)

/-! ### The device registers -/

/-- `x[G]` (R16, R22). A register that nothing has written reads as the value it holds after reset; that the spec calls
such a read a fault of the model (R25) is `State.ReadsUnwritten` (notes/assumptions/1.md). -/
def readG (s : State) : BitVec 1 := s.g

/-- `x[IT]` (R16, R23). -/
def readIT (s : State) : BitVec 2 := s.it

/-- `x[PKG]` (R16, R24). -/
def readPKG (s : State) : BitVec 2 := s.pkg

/-- `x[G] <- v` (R22). -/
def writeG (s : State) (v : BitVec 1) : State := { s with g := v, gWritten := true }

/-- `x[IT] <- v` (R23). -/
def writeIT (s : State) (v : BitVec 2) : State := { s with it := v, itWritten := true }

/-- `x[PKG] <- v` (R24). -/
def writePKG (s : State) (v : BitVec 2) : State := { s with pkg := v, pkgWritten := true }

/-! ### The end of an operation -/

/-- `respond(status, data)`: the last act of an operation; `busy` becomes 0 (R26, R84). -/
def respond (s : State) (status : Status) (data : BitVec 32) : State :=
  { s with run := none, responses := s.responses ++ [⟨status, data⟩] }

/-- `refuse(reason)`: "the request is not an operation; nothing happens but the response" (R16, R92). -/
def refuse (s : State) : State := s.respond .refused 0

/-- The end of a bus frame: a frame is no request, so nothing is answered to the host. -/
def frameDone (s : State) : State := { s with run := none }

/-- Reset, from any state (R220, R221): "the state of a freshly made, not yet initialized Device"; no bus call, no
delay, no diagnostic, and an operation in flight, blocked inside a call or not, is abandoned without a response. `G`,
`IT` and `PKG` are unwritten and hold what they hold in `State.reset`. -/
def applyReset (s : State) : State :=
  { s with run := none
           g := State.reset.g, gWritten := false
           it := State.reset.it, itWritten := false
           pkg := State.reset.pkg, pkgWritten := false }

end State

/-- The next state of `o` goes on with `k`; a fault or a refusal stays. -/
def andThen (o : Host.Outcome State Fault Refusal) (k : State → Host.Outcome State Fault Refusal) :
    Host.Outcome State Fault Refusal :=
  match o with
  | .next s => k s
  | .fault f => .fault f
  | .refused r => .refused r

end Sys2Proof.Machine
end

