-- ==== Sys2Proof/Machine/Lines.lean ====
section
/-! DEFINITION. The lines of pseudocode (10_state.md R26, R42): what one line does, how lines follow one another, and
the lines that the operations share.

Of the lines, those that call the bus or the delay can block. "a collaborator call completes when the collaborator has
answered" (R26); until then LUXCORE "has no step of its own" (R152), and "A collaborator that never answers hangs the
operation for good" (R241). The sink is no such collaborator: its call "returns at once" (R190, 93 U16). -/

namespace Sys2Proof.Machine

/-- A collaborator call that LUXCORE waits in: `BusWrite(x[ADDR], frame)`, `BusRead(x[ADDR], n)`, `Delay(d)` (R8). -/
inductive Call where
  | busWrite (frame : List Byte)
  | busRead (n : Nat)
  | delay (d : Nat)
deriving DecidableEq, Repr

/-- One line of pseudocode: LUXCORE's own act, or a collaborator call, `none` where the line is branched around, with
what its answer puts into the local names. -/
inductive Line where
  | act (f : State → State)
  | call (c : State → Option Call) (ret : Answer → Locals → Locals)

namespace State

/-- The request is accepted: `busy = 1`, `seq = 0` (R26). -/
def accept (s : State) (i : Instr) : State := { s with run := some { op := i } }

/-- The local names of the operation in flight. -/
def loc (s : State) : Locals :=
  match s.run with
  | some r => r.loc
  | none => {}

/-- A write of the local names. -/
def setLoc (s : State) (l : Locals) : State := { s with run := s.run.map fun r => { r with loc := l } }

/-- "advances by one line after each line completes" (R26); after `respond` there is no `seq` to advance. -/
def advance (s : State) : State :=
  { s with run := s.run.map fun r => { r with seq := r.seq + 1, waiting := false } }

/-- LUXCORE is blocked inside the call of its line (R152, R209, R241): `busy` is 1 and nothing is answered. -/
def blocked (s : State) : State := { s with run := s.run.map fun r => { r with waiting := true } }

/-- The call, once it is answered. -/
def complete (s : State) : Call → State
  | .busWrite f => (s.busWrite f).2
  | .busRead n => (s.busRead n).2
  | .delay d => s.delay d

/-- The call is answered and its line completes: the answer goes into the local names and `seq` advances (R26). -/
def endCall (s : State) (x : Call) (ret : Answer → Locals → Locals) : State :=
  ((s.complete x).setLoc (ret s.nextAnswer s.loc)).advance

end State

/-- Lines run in their order, to the end or to a call that is not answered when LUXCORE looks. -/
def runLines : List Line → State → State
  | [], s => s
  | .act f :: ls, s => runLines ls (f s).advance
  | .call c ret :: ls, s =>
    match c s with
    | none => runLines ls s.advance
    | some x => if s.returnsNow then runLines ls (s.endCall x ret) else s.blocked.looked

/-! ### The inlined register accesses: "inlined text, not calls with a return address" (R42) -/

/-- `r <- BusWrite(x[ADDR], frame)`. -/
def lineBusWrite (frame : State → List Byte) : Line :=
  .call (fun s => some (.busWrite (frame s))) fun a l => { l with ok := a.ok }

/-- `if r == fail: raise Diag(BUS_WRITE_FAIL)`. -/
def lineWriteFail : Line := .act fun s => if s.loc.ok then s else s.diag .busWriteFail

/-- `MemWrite(reg, 1, v)`, inlined (R54). -/
def memWriteLines (reg : Cfg → RegAddr) (v : State → Byte) : List Line :=
  [lineBusWrite fun s => writeFrame s.cfg (reg s.cfg) (v s), lineWriteFail]

/-- `if r == fail: raise Diag(BUS_READ_FAIL); return 0x00` of a byte read. -/
def lineByteNoWrite : Line := .act fun s =>
  if s.loc.ok then s else (s.diag .busReadFail).setLoc { s.loc with byte := none }

/-- `d <- BusRead(x[ADDR], 1)`, branched around when the command byte was not written; `return d[0]`. -/
def lineByteRead : Line :=
  .call (fun s => if s.loc.ok then some (.busRead 1) else none) fun a l =>
    { l with byte := match State.bytesRead a 1 with
                     | some (d0 :: _) => some d0
                     | _ => none }

/-- `if d == fail: raise Diag(BUS_READ_FAIL); return 0x00` of a byte read. -/
def lineByteNoRead : Line := .act fun s => if s.loc.ok && s.loc.byte.isNone then s.diag .busReadFail else s

/-- `MemRead(reg, 1)`, inlined (R55). -/
def memRead8Lines (reg : Cfg → RegAddr) : List Line :=
  [lineBusWrite fun s => readFrame8 s.cfg (reg s.cfg), lineByteNoWrite, lineByteRead, lineByteNoRead]

/-- `if r == fail: raise Diag(BUS_READ_FAIL); return 0x0000` of a word read. -/
def lineWordNoWrite : Line := .act fun s =>
  if s.loc.ok then s else (s.diag .busReadFail).setLoc { s.loc with word := none }

/-- `d <- BusRead(x[ADDR], 2)`, branched around when the command byte was not written; the word assembled. -/
def lineWordRead : Line :=
  .call (fun s => if s.loc.ok then some (.busRead 2) else none) fun a l =>
    { l with word := match State.bytesRead a 2 with
                     | some (d0 :: d1 :: _) => some (wordOf d0 d1)
                     | _ => none }

/-- `if d == fail: raise Diag(BUS_READ_FAIL); return 0x0000` of a word read. -/
def lineWordNoRead : Line := .act fun s => if s.loc.ok && s.loc.word.isNone then s.diag .busReadFail else s

/-- `MemRead(reg, 2)`, inlined (R56). -/
def memRead16Lines (reg : Cfg → RegAddr) : List Line :=
  [lineBusWrite fun s => readFrame16 s.cfg (reg s.cfg), lineWordNoWrite, lineWordRead, lineWordNoRead]

/-! ### The other lines -/

/-- `Delay(d)` (R150, R205). -/
def lineDelay (d : State → Nat) : Line := .call (fun s => some (.delay (d s))) fun _ l => l

/-- A write of the local names computed from the state: an assignment of the pseudocode. -/
def lineSet (f : State → Locals) : Line := .act fun s => s.setLoc (f s)

/-- `g <- x[G]`, `it <- x[IT]` and `pkg <- x[PKG]`. -/
def lineReadG : Line := lineSet fun s => { s.loc with g := s.readG }
def lineReadIT : Line := lineSet fun s => { s.loc with it := s.readIT }
def lineReadPKG : Line := lineSet fun s => { s.loc with pkg := s.readPKG }

/-- `respond(status, data)`. -/
def lineRespond (status : State → Status) (data : State → BitVec 32) : Line :=
  .act fun s => s.respond (status s) (data s)

end Sys2Proof.Machine
end

