-- ==== Sys2Proof/Machine/PowerControl.lean ====
section
/-! DEFINITION. ENABLE, DISABLE, INIT, SETIT, SETGAIN (41_power_and_device_state.md): the lines of each, its meaning,
which runs them, and the whole operation as one function, which it is when every call is answered (R26). The status of
an inner write of a sequenced operation is discarded (R136). -/

namespace Sys2Proof.Machine

namespace State

/-- The power-up write that opens the bracket (R130, R135). -/
def powerUp (s : State) : Bool × State := s.memWrite s.cfg.regControl s.cfg.ctrlOn

/-- The power-down write that closes the bracket (R131, R135). -/
def powerDown (s : State) : Bool × State := s.memWrite s.cfg.regControl s.cfg.ctrlOff

/-- The TIMING write inside its bracket, both fields together (R37, R90, R135). -/
def bracketedTiming (s : State) (g : BitVec 1) (it : BitVec 2) : State :=
  let s1 := s.powerUp.2
  let s2 := (s1.memWrite s1.cfg.regTiming (timing g it)).2
  s2.powerDown.2

/-- The power check of INIT: "if c[0] == 0: raise Diag(INIT_POWER)" (R132, R194). -/
def checkPower (s : State) (c : Byte) : State := if powerBit c = 0#1 then s.diag .initPower else s

end State

/-- The power-up and the power-down write, inlined (R135). -/
def powerUpLines : List Line := memWriteLines (·.regControl) fun s => s.cfg.ctrlOn
def powerDownLines : List Line := memWriteLines (·.regControl) fun s => s.cfg.ctrlOff

/-- The lines of ENABLE (R130). -/
def enableLines : List Line := powerUpLines ++ [lineRespond (fun s => statusOf s.loc.ok) fun _ => 0]

/-- ENABLE (R130). -/
def execEnable (s : State) : Host.Outcome State Fault Refusal := .next (runLines enableLines (s.accept .enable))

/-- ENABLE whose call is answered. -/
def performEnable (s : State) : State :=
  let r := s.powerUp
  r.2.respond (statusOf r.1) 0

/-- The lines of DISABLE (R131). -/
def disableLines : List Line := powerDownLines ++ [lineRespond (fun s => statusOf s.loc.ok) fun _ => 0]

/-- DISABLE (R131). -/
def execDisable (s : State) : Host.Outcome State Fault Refusal := .next (runLines disableLines (s.accept .disable))

/-- DISABLE whose call is answered. -/
def performDisable (s : State) : State :=
  let r := s.powerDown
  r.2.respond (statusOf r.1) 0

/-- The lines of INIT (R132). -/
def initLines : List Line :=
  powerUpLines
    ++ memRead8Lines (·.regControl)
    ++ [.act fun s => s.checkPower (orZero s.loc.byte)]
    ++ memRead8Lines (·.regId)
    ++ [.act fun s => s.writePKG (pkgField (orZero s.loc.byte))]
    ++ memRead8Lines (·.regTiming)
    ++ [.act fun s => s.writeG (gainField (orZero s.loc.byte)),
        .act fun s => s.writeIT (modeField (orZero s.loc.byte))]
    ++ powerDownLines
    ++ [lineRespond (fun _ => .ok) fun _ => 0]

/-- INIT (R132). -/
def execInit (s : State) : Host.Outcome State Fault Refusal := .next (runLines initLines (s.accept .init))

/-- INIT whose calls are answered. -/
def performInit (s : State) : State :=
  let s1 := s.powerUp.2
  let c := s1.memRead8 s1.cfg.regControl
  let s2 := c.2.checkPower (orZero c.1)
  let i := s2.memRead8 s2.cfg.regId
  let s3 := i.2.writePKG (pkgField (orZero i.1))
  let t := s3.memRead8 s3.cfg.regTiming
  let s4 := (t.2.writeG (gainField (orZero t.1))).writeIT (modeField (orZero t.1))
  s4.powerDown.2.respond .ok 0

/-- The lines of SETIT (R133). -/
def setitLines (it : BitVec 2) : List Line :=
  [lineReadG]
    ++ powerUpLines
    ++ memWriteLines (·.regTiming) (fun s => timing s.loc.g it)
    ++ powerDownLines
    ++ [.act fun s => s.writeIT it, lineRespond (fun _ => .ok) fun _ => 0]

/-- SETIT (R133). -/
def execSetit (it : BitVec 2) (s : State) : Host.Outcome State Fault Refusal :=
  .next (runLines (setitLines it) (s.accept (.setit it)))

/-- SETIT whose calls are answered. -/
def performSetit (it : BitVec 2) (s : State) : State :=
  ((s.bracketedTiming s.readG it).writeIT it).respond .ok 0

/-- The lines of SETGAIN (R134). -/
def setgainLines (g : BitVec 1) : List Line :=
  [lineReadIT]
    ++ powerUpLines
    ++ memWriteLines (·.regTiming) (fun s => timing g s.loc.it)
    ++ powerDownLines
    ++ [.act fun s => s.writeG g, lineRespond (fun _ => .ok) fun _ => 0]

/-- SETGAIN (R134). -/
def execSetgain (g : BitVec 1) (s : State) : Host.Outcome State Fault Refusal :=
  .next (runLines (setgainLines g) (s.accept (.setgain g)))

/-- SETGAIN whose calls are answered. -/
def performSetgain (g : BitVec 1) (s : State) : State :=
  ((s.bracketedTiming g s.readIT).writeG g).respond .ok 0

end Sys2Proof.Machine
end

