-- ==== Sys2Proof/Machine/Acquisition.lean ====
section
/-! DEFINITION. RDCHAN (42_channel_acquisition.md): its lines, its meaning, which runs them, and the whole operation as
one function, which it is when every call is answered (R26). -/

namespace Sys2Proof.Machine

/-- `wait(it)` (R151). -/
def waitOf (c : Cfg) (it : BitVec 2) : Nat :=
  match modeOf c it with
  | .fast => c.waitFast
  | .medium => c.waitMedium
  | .default => c.waitDefault

/-- The lines of RDCHAN (R150). -/
def rdchanLines : List Line :=
  [lineReadIT]
    ++ powerUpLines
    ++ [lineDelay fun s => waitOf s.cfg s.loc.it]
    ++ memRead16Lines (·.regCh0Low)
    ++ [lineSet fun s => { s.loc with ch0 := orZero s.loc.word }]
    ++ memRead16Lines (·.regCh1Low)
    ++ [lineSet fun s => { s.loc with ch1 := orZero s.loc.word }]
    ++ powerDownLines
    ++ [lineRespond (fun _ => .ok) fun s => channelData s.loc.ch0 s.loc.ch1]

/-- RDCHAN (R150, R152). -/
def execRdchan (s : State) : Host.Outcome State Fault Refusal := .next (runLines rdchanLines (s.accept .rdchan))

/-- RDCHAN whose calls are answered and whose delay returns. -/
def performRdchan (s : State) : State :=
  let s1 := s.powerUp.2.delay (waitOf s.cfg s.readIT)
  let ch0 := s1.memRead16 s1.cfg.regCh0Low
  let ch1 := ch0.2.memRead16 ch0.2.cfg.regCh1Low
  ch1.2.powerDown.2.respond .ok (channelData (orZero ch0.1) (orZero ch1.1))

end Sys2Proof.Machine
end

