-- ==== Sys2Proof/Machine/BusFrames.lean ====
section
/-! DEFINITION. The three bus frames of the opcode table (30_encoding.md R87 to R89), each as the register access that
sends it: `MemWrite` for the write frame (R54), `MemRead` for the read frames (R55, R56). A frame is no host request, so
no response is given; the byte or word read stands in the trace (notes/assumptions/7.md). -/

namespace Sys2Proof.Machine

/-- A bus frame ends without a response. -/
def lineFrameDone : Line := .act fun s => s.frameDone

/-- The lines of FRAME.WRITE (R54, R87). -/
def frameWriteLines (reg : RegAddr) (value : Byte) : List Line :=
  memWriteLines (fun _ => reg) (fun _ => value) ++ [lineFrameDone]

/-- FRAME.WRITE: "sent with one `BusWrite(x[ADDR], ...)`; no read follows" (R87). -/
def execFrameWrite (reg : RegAddr) (value : Byte) (s : State) : Host.Outcome State Fault Refusal :=
  .next (runLines (frameWriteLines reg value) (s.accept (.frameWrite reg value)))

/-- FRAME.WRITE whose call is answered. -/
def performFrameWrite (reg : RegAddr) (value : Byte) (s : State) : State := (s.memWrite reg value).2.frameDone

/-- The lines of FRAME.READ8 (R55, R88). -/
def frameRead8Lines (reg : RegAddr) : List Line := memRead8Lines (fun _ => reg) ++ [lineFrameDone]

/-- FRAME.READ8: "sent with one `BusWrite`, followed by one `BusRead(x[ADDR], 1)`" (R88). -/
def execFrameRead8 (reg : RegAddr) (s : State) : Host.Outcome State Fault Refusal :=
  .next (runLines (frameRead8Lines reg) (s.accept (.frameRead8 reg)))

/-- FRAME.READ8 whose calls are answered. -/
def performFrameRead8 (reg : RegAddr) (s : State) : State := (s.memRead8 reg).2.frameDone

/-- The lines of FRAME.READ16 (R56, R89). -/
def frameRead16Lines (reg : RegAddr) : List Line := memRead16Lines (fun _ => reg) ++ [lineFrameDone]

/-- FRAME.READ16: "followed by one `BusRead(x[ADDR], 2)` whose first byte is the low byte" (R89). -/
def execFrameRead16 (reg : RegAddr) (s : State) : Host.Outcome State Fault Refusal :=
  .next (runLines (frameRead16Lines reg) (s.accept (.frameRead16 reg)))

/-- FRAME.READ16 whose calls are answered. -/
def performFrameRead16 (reg : RegAddr) (s : State) : State := (s.memRead16 reg).2.frameDone

end Sys2Proof.Machine
end

