-- ==== Sys2Proof/Machine/Lux.lean ====
section
/-! DEFINITION. LUX, the fixed-point conversion (43_lux_conversion.md). Every value is an exact natural number (R182):
no wrap at any width. One function per step of the algorithm, then the lines, the meaning that runs them, and the whole
operation as one function (R26). -/

namespace Sys2Proof.Machine

/-- Step 1: `chscale_of(it)` (R162). -/
def chscaleOf (c : Cfg) (it : BitVec 2) : Nat :=
  match modeOf c it with
  | .fast => c.chscaleFast
  | .medium => c.chscaleMedium
  | .default => 1 <<< c.chScale

/-- Step 2: `chScale << 4` at low gain (R164). -/
def gainAdjust (c : Cfg) (g : BitVec 1) (chScale : Nat) : Nat :=
  if gainIsLow c g then chScale <<< 4 else chScale

/-- Step 3: `(raw * chScale) >> CH_SCALE` (R166). -/
def normalize (c : Cfg) (chScale : Nat) (raw : Word16) : Nat := (raw.toNat * chScale) >>> c.chScale

/-- Step 4: the rounded ratio of the channels, 0 where channel 0 is 0 (R168). -/
def ratioOf (c : Cfg) (channel0 channel1 : Nat) : Nat :=
  if channel0 = 0 then 0 else ((channel1 <<< (c.ratioScale + 1)) / channel0 + 1) >>> 1

/-- Step 5a: `table(pkg)` (R170). -/
def tableOf (c : Cfg) (pkg : BitVec 2) : Option CoeffTable :=
  match packageOf c pkg with
  | .cs => some c.tableCs
  | .tfncl => some c.tableTfncl
  | .unknown => none

/-- Step 5b: the number of the selected band less one: of the first of bands 1 to 7 with `ratio <= K`, else of band 8
(R172; `K8` is never compared, 90 C2). -/
def bandIndex (t : CoeffTable) (ratio : Nat) : Fin 8 :=
  if ratio ≤ t[0].k then 0 else if ratio ≤ t[1].k then 1 else if ratio ≤ t[2].k then 2 else if ratio ≤ t[3].k then 3
  else if ratio ≤ t[4].k then 4 else if ratio ≤ t[5].k then 5 else if ratio ≤ t[6].k then 6 else 7

/-- Step 5: the coefficients `(B, M)`, both 0 for the unknown package (R172, R186). -/
def coefficients (c : Cfg) (pkg : BitVec 2) (ratio : Nat) : Nat × Nat :=
  match tableOf c pkg with
  | none => (0, 0)
  | some t => (t[bandIndex t ratio].b, t[bandIndex t ratio].m)

/-- Step 6: `p0 - p1`, clamped to 0 when `p1 > p0` by comparing before subtracting (R174, 90 C4). -/
def clampedDiff (p0 p1 : Nat) : Nat := if p1 > p0 then 0 else p0 - p1

/-- Step 7, first line: `temp + (1 << (LUX_SCALE - 1))` (R176). -/
def roundUp (c : Cfg) (temp : Nat) : Nat := temp + 1 <<< (c.luxScale - 1)

/-- Step 7, second line: `temp >> LUX_SCALE` (R176). -/
def scaleOut (c : Cfg) (temp : Nat) : Nat := temp >>> c.luxScale

/-- The conversion, steps 1 to 8: "a pure combinational function" (R160). -/
def luxOf (c : Cfg) (it : BitVec 2) (g : BitVec 1) (pkg : BitVec 2) (raw0 raw1 : Word16) : Nat :=
  let chScale := gainAdjust c g (chscaleOf c it)
  let channel0 := normalize c chScale raw0
  let channel1 := normalize c chScale raw1
  let ratio := ratioOf c channel0 channel1
  let coeff := coefficients c pkg ratio
  let temp := clampedDiff (channel0 * coeff.1) (channel1 * coeff.2)
  scaleOut c (roundUp c temp)

namespace State

/-- "raises Diag(PKG_UNKNOWN) once if pkg is unknown" (R160, R186, R195). -/
def checkPackage (s : State) (pkg : BitVec 2) : State :=
  if packageOf s.cfg pkg = .unknown then s.diag .pkgUnknown else s

end State

/-- The lines of LUX (R160). -/
def luxLines (raw0 raw1 : Word16) : List Line :=
  [lineReadIT, lineReadG, lineReadPKG,
   lineSet fun s => { s.loc with chScale := chscaleOf s.cfg s.loc.it },
   lineSet fun s => { s.loc with chScale := gainAdjust s.cfg s.loc.g s.loc.chScale },
   lineSet fun s => { s.loc with channel0 := normalize s.cfg s.loc.chScale raw0 },
   lineSet fun s => { s.loc with channel1 := normalize s.cfg s.loc.chScale raw1 },
   lineSet fun s => { s.loc with ratio := ratioOf s.cfg s.loc.channel0 s.loc.channel1 },
   .act fun s => s.checkPackage s.loc.pkg,
   lineSet fun s => { s.loc with b := (coefficients s.cfg s.loc.pkg s.loc.ratio).1
                                 m := (coefficients s.cfg s.loc.pkg s.loc.ratio).2 },
   lineSet fun s => { s.loc with p0 := s.loc.channel0 * s.loc.b, p1 := s.loc.channel1 * s.loc.m },
   lineSet fun s => { s.loc with temp := clampedDiff s.loc.p0 s.loc.p1 },
   lineSet fun s => { s.loc with temp := roundUp s.cfg s.loc.temp },
   lineSet fun s => { s.loc with lux := scaleOut s.cfg s.loc.temp },
   lineRespond (fun _ => .ok) fun s => luxData s.loc.lux]

/-- LUX (R160). -/
def execLux (raw0 raw1 : Word16) (s : State) : Host.Outcome State Fault Refusal :=
  .next (runLines (luxLines raw0 raw1) (s.accept (.lux raw0 raw1)))

/-- LUX as one function, which it always is: it makes no call that LUXCORE waits in. -/
def performLux (raw0 raw1 : Word16) (s : State) : State :=
  (s.checkPackage s.readPKG).respond .ok (luxData (luxOf s.cfg s.readIT s.readG s.readPKG raw0 raw1))

end Sys2Proof.Machine
end

