-- ==== Sys2Proof/Machine/RegisterAccess.lean ====
section
/-! DEFINITION. WRREG, RDREG, RDREG16 (40_register_access.md): the lines of each, its meaning, which runs them, and the
whole operation as one function, which it is when every call is answered (R26). -/

namespace Sys2Proof.Machine

/-- The lines of WRREG (R110). -/
def wrregLines (reg : RegAddr) (value : Byte) : List Line :=
  memWriteLines (fun _ => reg) (fun _ => value) ++ [lineRespond (fun s => statusOf s.loc.ok) fun _ => 0]

/-- WRREG (R110). -/
def execWrreg (reg : RegAddr) (value : Byte) (s : State) : Host.Outcome State Fault Refusal :=
  .next (runLines (wrregLines reg value) (s.accept (.wrreg reg value)))

/-- WRREG whose call is answered. -/
def performWrreg (reg : RegAddr) (value : Byte) (s : State) : State :=
  let r := s.memWrite reg value
  r.2.respond (statusOf r.1) 0

/-- The lines of RDREG (R111). -/
def rdregLines (reg : RegAddr) : List Line :=
  memRead8Lines (fun _ => reg) ++
    [lineRespond (fun s => statusOf s.loc.byte.isSome) fun s => (orZero s.loc.byte).setWidth 32]

/-- RDREG (R111). -/
def execRdreg (reg : RegAddr) (s : State) : Host.Outcome State Fault Refusal :=
  .next (runLines (rdregLines reg) (s.accept (.rdreg reg)))

/-- RDREG whose calls are answered. -/
def performRdreg (reg : RegAddr) (s : State) : State :=
  let r := s.memRead8 reg
  r.2.respond (statusOf r.1.isSome) ((orZero r.1).setWidth 32)

/-- The lines of RDREG16 (R112). -/
def rdreg16Lines (reg : RegAddr) : List Line :=
  memRead16Lines (fun _ => reg) ++
    [lineRespond (fun s => statusOf s.loc.word.isSome) fun s => (orZero s.loc.word).setWidth 32]

/-- RDREG16 (R112). -/
def execRdreg16 (reg : RegAddr) (s : State) : Host.Outcome State Fault Refusal :=
  .next (runLines (rdreg16Lines reg) (s.accept (.rdreg16 reg)))

/-- RDREG16 whose calls are answered. -/
def performRdreg16 (reg : RegAddr) (s : State) : State :=
  let r := s.memRead16 reg
  r.2.respond (statusOf r.1.isSome) ((orZero r.1).setWidth 32)

end Sys2Proof.Machine
end

