-- ==== Sys2Proof/Machine/Dispatch.lean ====
section
/-! DEFINITION. The dispatch of the operations to their meanings (R82). -/

namespace Sys2Proof.Machine

def exec (i : Instr) (s : State) : Host.Outcome State Fault Refusal :=
  match i with
  | .wrreg reg value => Sys2Proof.Machine.execWrreg reg value s
  | .rdreg reg => Sys2Proof.Machine.execRdreg reg s
  | .rdreg16 reg => Sys2Proof.Machine.execRdreg16 reg s
  | .enable => Sys2Proof.Machine.execEnable s
  | .disable => Sys2Proof.Machine.execDisable s
  | .init => Sys2Proof.Machine.execInit s
  | .setit it => Sys2Proof.Machine.execSetit it s
  | .setgain g => Sys2Proof.Machine.execSetgain g s
  | .rdchan => Sys2Proof.Machine.execRdchan s
  | .lux raw0 raw1 => Sys2Proof.Machine.execLux raw0 raw1 s
  | .frameWrite reg value => Sys2Proof.Machine.execFrameWrite reg value s
  | .frameRead8 reg => Sys2Proof.Machine.execFrameRead8 reg s
  | .frameRead16 reg => Sys2Proof.Machine.execFrameRead16 reg s

end Sys2Proof.Machine
end

