-- ==== Sys2Proof/Machine/Sequencer.lean ====
section
/-! DEFINITION. The sequencer (10_state.md R26, R42): an operation in flight, one line at a time, so that `busy` and
`seq` have the values the spec gives them between two lines, and every wait for a collaborator is a state of its own;
and an operation in flight taken as far as the collaborators let it. -/

namespace Sys2Proof.Machine

/-- The pseudocode of every operation. -/
def linesOf : Instr → List Line
  | .wrreg reg value => wrregLines reg value
  | .rdreg reg => rdregLines reg
  | .rdreg16 reg => rdreg16Lines reg
  | .enable => enableLines
  | .disable => disableLines
  | .init => initLines
  | .setit it => setitLines it
  | .setgain g => setgainLines g
  | .rdchan => rdchanLines
  | .lux raw0 raw1 => luxLines raw0 raw1
  | .frameWrite reg value => frameWriteLines reg value
  | .frameRead8 reg => frameRead8Lines reg
  | .frameRead16 reg => frameRead16Lines reg

/-- The call LUXCORE is blocked in: made, and not answered (R152, R241). -/
def State.pendingCall (s : State) : Option Call :=
  match s.run with
  | none => none
  | some r =>
    match (linesOf r.op)[r.seq]? with
    | some (.call c _) => if r.waiting then c s else none
    | _ => none

/-- One step of the machine at the grain of a line (R26): LUXCORE's own act or the making of a call; and while it is
blocked in the call, the step of the collaborator, which answers or does not yet (R152). An idle block has no step. -/
def seqStep (s : State) : Host.Outcome State Fault Refusal :=
  match s.run with
  | none => .next s
  | some r =>
    match (linesOf r.op)[r.seq]? with
    | none => .fault .noSuchLine
    | some (.act f) => .next (f s).advance
    | some (.call c ret) =>
      match c s with
      | none => .next s.advance
      | some x => .next (if r.waiting then (if s.returnsNow then s.endCall x ret else s.looked) else s.blocked)

/-- `n` steps of the sequencer. -/
def seqSteps : Nat → State → Host.Outcome State Fault Refusal
  | 0, s => .next s
  | n + 1, s => andThen (seqStep s) (seqSteps n)

/-- The operation in flight goes on, from its line or from the call it is blocked in: to its end, "An operation always
runs to its `respond`" (R26), or to a call that is not answered when LUXCORE looks (R152, R241). -/
def finish (r : Running) (s : State) : Host.Outcome State Fault Refusal :=
  if r.seq < (linesOf r.op).length then .next (runLines ((linesOf r.op).drop r.seq) s) else .fault .noSuchLine

end Sys2Proof.Machine
end

