-- ==== Sys2Proof/Machine/Step.lean ====
section
/-! DEFINITION. One step: one operation, "one operation at a time to completion" (R7), or as far as the collaborators
answer (R152, R241). The block has no program counter and no stored program (R26): what it fetches is the next word at
its port. -/

namespace Sys2Proof.Machine

/-- One step of the machine. Busy: nothing is accepted (R81), and the operation in flight goes on; in a run it is blocked
inside a call, goes on when the collaborator has answered, and hangs for good if it never does (R152, R241).
Idle: the host presents its next word, which is decoded and executed; a request word that is no operation is answered
REFUSED (R92). With no word to present nothing happens: "The end of a run is: the host has no more requests and
`busy == 0`" (R241). -/
def step (s : State) : Host.Outcome State Fault Refusal :=
  match s.run with
  | some r => finish r s
  | none =>
    match s.requests with
    | [] => .next s
    | w :: rest =>
      match decode s.cfg w with
      | .ok i => exec i { s with requests := rest }
      | .error .notAFrame => .refused .notAFrame
      | .error _ => .next (State.refuse { s with requests := rest })

/-- `s` with a word, numbered as the opcode table numbers it, as the next one the port presents, and the block idle so
that the next step accepts it. -/
def State.withFetchWord (s : State) (nbits w : Nat) : State :=
  { s with run := none, requests := tableWord nbits w :: s.requests }

end Sys2Proof.Machine
end

