-- ==== Sys2Proof/Machine/Assembler.lean ====
section
/-! DEFINITION. The host's side: the assembler of R95 as a function from a mnemonic and its operands to an operation,
and the pseudo-operation MEASURE of R96. LUXCORE itself holds neither. -/

namespace Sys2Proof.Machine

/-- An operand of an assembler line: a number, or one of the names of R95. -/
inductive AsmOperand where
  | num (n : Nat)
  | fast
  | medium
  | default
  | low
  | high
  | control
  | timing
  | id
  | ch0
  | ch1
deriving DecidableEq, Repr

/-- The mnemonics of R95. -/
inductive AsmMnemonic where
  | wrreg
  | rdreg
  | rdreg16
  | enable
  | disable
  | init
  | setit
  | setgain
  | rdchan
  | lux
deriving DecidableEq, Repr

/-- The number an operand stands for (R95): `DEFAULT` is 0b10, `HIGH` is `1 - GAIN_LOW_CODE`. -/
def AsmOperand.value (c : Cfg) : AsmOperand → Nat
  | .num n => n
  | .fast => c.itFast.toNat
  | .medium => c.itMedium.toNat
  | .default => 0b10
  | .low => c.gainLowCode.toNat
  | .high => 1 - c.gainLowCode.toNat
  | .control => c.regControl.toNat
  | .timing => c.regTiming.toNat
  | .id => c.regId.toNat
  | .ch0 => c.regCh0Low.toNat
  | .ch1 => c.regCh1Low.toNat

/-- An operand below its bound (R95: "reg 0..15, value 0..255", "it 0..3", "g 0..1", "each 0..65535"). -/
def asmField (c : Cfg) (bound : Nat) (o : AsmOperand) : Option Nat :=
  if o.value c < bound then some (o.value c) else none

/-- One assembler line (R95). -/
def assemble (c : Cfg) (m : AsmMnemonic) (ops : List AsmOperand) : Option Instr :=
  match m, ops with
  | .wrreg, [r, v] => do
      let r ← asmField c (2 ^ c.regW) r
      let v ← asmField c 256 v
      pure (.wrreg (BitVec.ofNat 8 r) (BitVec.ofNat 8 v))
  | .rdreg, [r] => (asmField c (2 ^ c.regW) r).map fun r => .rdreg (BitVec.ofNat 8 r)
  | .rdreg16, [r] => (asmField c (2 ^ c.regW) r).map fun r => .rdreg16 (BitVec.ofNat 8 r)
  | .enable, [] => some .enable
  | .disable, [] => some .disable
  | .init, [] => some .init
  | .setit, [o] => (asmField c 4 o).map fun v => .setit (BitVec.ofNat 2 v)
  | .setgain, [o] => (asmField c 2 o).map fun v => .setgain (BitVec.ofNat 1 v)
  | .rdchan, [] => some .rdchan
  | .lux, [a, b] => do
      let a ← asmField c 65536 a
      let b ← asmField c 65536 b
      pure (.lux (BitVec.ofNat 16 a) (BitVec.ofNat 16 b))
  | _, _ => none

/-- MEASURE: RDCHAN, then LUX on the counts of its response (R96): "It is two requests, not one: the host moves the
data". While RDCHAN is blocked there is no response yet, and the host has no move (R152, R207). -/
def measure (s : State) : Host.Outcome State Fault Refusal :=
  andThen (exec .rdchan s) fun t =>
    if t.busy then .next t
    else
      match t.responses.getLast? with
      | some r => exec (.lux (r.data.extractLsb' 0 16) (r.data.extractLsb' 16 16)) t
      | none => .next t

end Sys2Proof.Machine
end

