-- ==== Sys2Proof/Machine/Perform.lean ====
section
/-! DEFINITION. Every operation as one function from (state, request, collaborator answers) to (state, response, trace):
the reading R26 allows a model that interleaves no agents, and what `exec` does when every call is answered. -/

namespace Sys2Proof.Machine

/-- The operation whose calls are all answered. -/
def perform (i : Instr) (s : State) : State :=
  match i with
  | .wrreg reg value => performWrreg reg value s
  | .rdreg reg => performRdreg reg s
  | .rdreg16 reg => performRdreg16 reg s
  | .enable => performEnable s
  | .disable => performDisable s
  | .init => performInit s
  | .setit it => performSetit it s
  | .setgain g => performSetgain g s
  | .rdchan => performRdchan s
  | .lux raw0 raw1 => performLux raw0 raw1 s
  | .frameWrite reg value => performFrameWrite reg value s
  | .frameRead8 reg => performFrameRead8 reg s
  | .frameRead16 reg => performFrameRead16 reg s

end Sys2Proof.Machine
end

