-- ==== Sys2Proof/Safety.lean ====
section
/-! DEFINITION. The terms the claims are stated in: the answers the bus is going to give, the events a register access
leaves in the trace, what a legal event is, the invariant, and what a good trace is. -/

namespace Sys2Proof

/-- The operation reads `G` (R22), `IT` (R23), `PKG` (R24); the table is that of R25. -/
def Instr.readsG : Instr → Bool
  | .setit _ => true
  | .lux _ _ => true
  | _ => false

def Instr.readsIT : Instr → Bool
  | .setgain _ => true
  | .rdchan => true
  | .lux _ _ => true
  | _ => false

def Instr.readsPKG : Instr → Bool
  | .lux _ _ => true
  | _ => false

/-- The operation is a bus frame (R80), no request. -/
def Instr.isFrame : Instr → Bool
  | .frameWrite _ _ => true
  | .frameRead8 _ => true
  | .frameRead16 _ => true
  | _ => false

/-- "the five operations that are a single register access" (R85). -/
def Instr.isSingleAccess : Instr → Bool
  | .wrreg _ _ => true
  | .rdreg _ => true
  | .rdreg16 _ => true
  | .enable => true
  | .disable => true
  | _ => false

end Sys2Proof

namespace Sys2Proof.Machine

/-! ### The answers to come, and the events of one access -/

/-- The answer the bus will give to the `k`-th call from `s` on, counting from 0 (R52). -/
def State.answerAt (s : State) (k : Nat) : Answer := (s.answers[k]?).getD (Config.freeAnswer (s.calls + k))

/-- Whether the collaborator LUXCORE then waits for is found to have answered at the `k`-th look from `s` on, counting
from 0 (R152, R241). -/
def State.returnsAt (s : State) (k : Nat) : Bool := (s.returns[k]?).getD (Config.freeReturn (s.looks + k))

/-- The next `n` collaborator calls are answered when LUXCORE looks: the assumption R241 states termination under. -/
def State.Returns (s : State) (n : Nat) : Prop := ∀ k < n, s.returnsAt k = true

/-- The events of a register write whose frame was answered `ok` (R54, R192). -/
def writeTrace (addr : Nat) (frame : List Byte) (ok : Bool) : List Event :=
  .busWrite addr frame ok :: if ok then [] else [.diag .busWriteFail]

/-- What a register read of `n` bytes, whose first bus call is the `k`-th from `s` on, gets: nothing when the
command byte or the read is answered `fail`, else the first `n` bytes of the answer (R55, R56). -/
def State.readData (s : State) (k n : Nat) : Option (List Byte) :=
  if (s.answerAt k).ok && (s.answerAt (k + 1)).ok then
    some ([(s.answerAt (k + 1)).b0, (s.answerAt (k + 1)).b1].take n)
  else none

/-- How many bus calls that read makes: "does not issue the `BusRead` when the command-byte write failed" (R55). -/
def State.readCalls (s : State) (k : Nat) : Nat := if (s.answerAt k).ok then 2 else 1

/-- The events of that read (R55, R56, R193). -/
def State.readTrace (s : State) (k : Nat) (frame : List Byte) (n : Nat) : List Event :=
  if (s.answerAt k).ok then
    [.busWrite s.addr frame true, .busRead s.addr n (s.readData k n)] ++
      (if (s.readData k n).isSome then [] else [.diag .busReadFail])
  else [.busWrite s.addr frame false, .diag .busReadFail]

/-- The byte a read yields, 0 for a failed one (R66). -/
def byteOf : Option (List Byte) → Byte
  | some (b :: _) => b
  | _ => 0

/-- The word a read yields, `(high_byte << 8) | low_byte` with the low byte first, 0 for a failed one (R56, R66). -/
def word16Of : Option (List Byte) → Word16
  | some (lo :: hi :: _) => hi ++ lo
  | _ => 0

/-- `s` after `n` more bus calls, each answered when LUXCORE looked, with the events `es`: the only change a bus access
makes. -/
def State.afterBus (s : State) (n : Nat) (es : List Event) : State :=
  { s with answers := s.answers.drop n, calls := s.calls + n, returns := s.returns.drop n, looks := s.looks + n
           trace := s.trace ++ es }

/-- `s` after `n` looks at a collaborator that has not answered: the only change waiting makes. -/
def State.afterLooks (s : State) (n : Nat) : State := { s with returns := s.returns.drop n, looks := s.looks + n }

/-- `s` at the end of a request that made `n` bus calls with the events `es`. -/
def State.afterRequest (s : State) (n : Nat) (es : List Event) (status : Status) (data : BitVec 32) : State :=
  { s.afterBus n es with run := none, responses := s.responses ++ [⟨status, data⟩] }

/-! ### Events -/

def Event.isBusCall : Event → Bool
  | .busWrite _ _ _ => true
  | .busRead _ _ _ => true
  | .delay _ => false
  | .diag _ => false

def Event.isDiag : Event → Bool
  | .busWrite _ _ _ => false
  | .busRead _ _ _ => false
  | .delay _ => false
  | .diag _ => true

def Event.isDelay : Event → Bool
  | .busWrite _ _ _ => false
  | .busRead _ _ _ => false
  | .delay _ => true
  | .diag _ => false

/-- A frame LUXCORE sends: one of the three of R87 to R89, on a register address of `REG_W` bits. -/
def IsFrame (c : Cfg) (f : List Byte) : Prop :=
  ∃ reg, c.IsReg reg ∧ (f = readFrame8 c reg ∨ f = readFrame16 c reg ∨ ∃ v, f = writeFrame c reg v)

/-- A legal collaborator call: every bus call "passes `x[ADDR]` as its address argument and no other value" (R21), a
write is one of the three frames (R59), a read is of one or two bytes and answered with exactly that many (R52, R59),
a delay is one of the three waits (R13). -/
def Event.Legal (c : Cfg) (addr : Nat) : Event → Prop
  | .busWrite a f _ => a = addr ∧ IsFrame c f
  | .busRead a n d => a = addr ∧ (n = 1 ∨ n = 2) ∧ ∀ bs, d = some bs → bs.length = n
  | .delay d => d = c.waitFast ∨ d = c.waitMedium ∨ d = c.waitDefault
  | .diag _ => True

/-- The diagnostic a failed bus call asks for (R192, R193): a two-byte frame is a write frame, and only it (R94). -/
def Event.demands : Event → Option Diag
  | .busWrite _ _ true => none
  | .busWrite _ f false => some (if f.length = 2 then .busWriteFail else .busReadFail)
  | .busRead _ _ none => some .busReadFail
  | .busRead _ _ (some _) => none
  | .delay _ => none
  | .diag _ => none

/-- "the trace shows the failing call immediately followed by its `Diag`" (R201), and a bus diagnostic stands nowhere
else. -/
def DiagsMatchFailures : List Event → Prop
  | [] => True
  | e :: es =>
    (∀ d, e.demands = some d → es.head? = some (.diag d))
      ∧ (e.demands = none → es.head? ≠ some (.diag .busWriteFail) ∧ es.head? ≠ some (.diag .busReadFail))
      ∧ DiagsMatchFailures es

/-- The value of the last write frame to TIMING in a trace, answered `ok` or not (R137). -/
def lastTimingWrite (c : Cfg) : List Event → Option Byte
  | [] => none
  | e :: es =>
    (lastTimingWrite c es).or
      (match e with
       | .busWrite _ [b, v] _ => if b = cmd c c.regTiming false then some v else none
       | _ => none)

/-! ### States and runs -/

/-- `G`, `IT` and `PKG` have all been written (R25). -/
def State.AllWritten (s : State) : Prop := s.gWritten = true ∧ s.itWritten = true ∧ s.pkgWritten = true

/-- The operation reads a register that no operation has written since reset. Here the spec's own model has
`fault(unwritten)`, which "stands for "the document does not say what happens"" (R25, R197): what follows depends on
what the register holds after reset, a choice of this model's (notes/assumptions/1.md). -/
def State.ReadsUnwritten (s : State) (i : Instr) : Prop :=
  (i.readsG = true ∧ s.gWritten = false) ∨ (i.readsIT = true ∧ s.itWritten = false)
    ∨ (i.readsPKG = true ∧ s.pkgWritten = false)

/-- What a step leaves in a run: an idle block, or one blocked inside a collaborator call (R152, R241). -/
def State.Settled (s : State) : Prop := s.run = none ∨ ∃ x, s.pendingCall = some x

/-- The invariant of the machine: the parameters meet the spec's constraints (R10 to R12), `ADDR` has `ADDR_W` bits
(R21), an operation in flight is one of the machine's and stands at a line of its own (R26), and every call answered was
legal. -/
def State.Inv (s : State) : Prop :=
  s.cfg.WF
    ∧ s.addr < 2 ^ s.cfg.addrW
    ∧ (∀ r, s.run = some r → r.op.wf s.cfg = true ∧ r.seq < (linesOf r.op).length)
    ∧ ∀ e ∈ s.trace, e.Legal s.cfg s.addr

/-- The operations that write TIMING and its shadow (R37). -/
def IsSetter : Instr → Prop
  | .setit _ => True
  | .setgain _ => True
  | _ => False

/-- The sequenced operations (00_scope.md 7, less ENABLE and DISABLE): the ones with a power bracket (R135). -/
def IsBracketed : Instr → Prop
  | .init => True
  | .setit _ => True
  | .setgain _ => True
  | .rdchan => True
  | _ => False

/-- The state with the other value of the open parameter `GAIN_LOW_CODE` (90_conflicts.md C1). -/
def State.otherPolarity (s : State) : State :=
  { s with cfg := { s.cfg with gainLowCode := ~~~s.cfg.gainLowCode } }

/-- Operations executed in their order. -/
def execAll : List Instr → State → Host.Outcome State Fault Refusal
  | [], s => .next s
  | i :: is, s => andThen (exec i s) (execAll is)

/-- The next state of an outcome, if it is one. -/
def nextState? : Host.Outcome State Fault Refusal → Option State
  | .next s => some s
  | .fault _ => none
  | .refused _ => none

/-- The most bus calls an operation makes (R113, R132, R241). -/
def busCallBound : Instr → Nat
  | .wrreg _ _ => 1
  | .rdreg _ => 2
  | .rdreg16 _ => 2
  | .enable => 1
  | .disable => 1
  | .init => 8
  | .setit _ => 3
  | .setgain _ => 3
  | .rdchan => 6
  | .lux _ _ => 0
  | .frameWrite _ _ => 1
  | .frameRead8 _ => 2
  | .frameRead16 _ => 2

/-- The most diagnostics an operation raises (R200). -/
def diagBound : Instr → Nat
  | .init => 6
  | .setit _ => 3
  | .setgain _ => 3
  | .rdchan => 4
  | _ => 1

/-- The delays an operation makes: one, in RDCHAN only (R205). -/
def delayCount : Instr → Nat
  | .rdchan => 1
  | _ => 0

/-- The most calls an operation waits in, of the bus and of the delay. -/
def waitBound (i : Instr) : Nat := busCallBound i + delayCount i

end Sys2Proof.Machine
end

