-- ==== Sys2Proof/Certificates/Slice0/Obligations.lean ====
section
/-! DEFINITION. The statements for the provers, from the spec's numbered rules. A statement about every state is about
every choice of the parameters `s.cfg` too; one that needs the default record says so. What an operation does holds when
the collaborators answer its calls (`State.Returns`, R241); what it does when one does not is the subject of
`OperationsEndWhenAnsweredAndHangWhenNot`. -/

open Sys2Proof Sys2Proof.Machine

/-! ### Encoding -/

/-- R81 to R83, R86 to R89: no operand bit is dropped, for every parameter record and every operand. -/
def Obligations.EncodeThenDecodeReturnsTheOperation : Prop :=
  ∀ (c : Cfg) (i : Instr), c.WF → i.wf c = true → decode c (encode c i) = .ok i

/-- R83, R92: a word has one meaning, and it is a well-formed operation. -/
def Obligations.DecodedWordsAreEncodingsOfWellFormedOperations : Prop :=
  ∀ (c : Cfg) (w : PortWord) (i : Instr), c.WF → decode c w = .ok i → i.wf c = true ∧ encode c i = w

/-- R83: "a request word `w` selects the row when `(w & mask) == match`". -/
def Obligations.TableRowsDecodeToTheirOperation : Prop :=
  ∀ (w : ReqBits) (r : ReqRow), r ∈ reqRows → r.selects w = true →
    ∃ i, decode Cfg.defaults (.req w) = .ok i ∧ i.mnemonic = r.mnemonic

/-- R92, whole: a request word that matches no row of R83 is answered REFUSED, and nothing else happens. -/
def Obligations.UnmatchedRequestWordsAreOnlyAnsweredRefused : Prop :=
  ∀ (s : State) (w : ReqBits) (rest : List PortWord), s.cfg = Cfg.defaults → s.run = none →
    s.requests = .req w :: rest → (∀ r ∈ reqRows, r.selects w = false) →
      step s = .next { s with requests := rest, responses := s.responses ++ [⟨.refused, 0⟩] }

/-- 95_test_vectors.md 2.1 and 2.2: words written out from the encodings of R83 and R87 to R89. -/
def Obligations.WrittenOutWordsDecodeToTheirOperation : Prop :=
  decode Cfg.defaults (.req 0x100000112#36) = .ok (.wrreg 0x1#8 0x12#8)
    ∧ decode Cfg.defaults (.req 0x200000A00#36) = .ok (.rdreg 0xA#8)
    ∧ decode Cfg.defaults (.req 0x300000C00#36) = .ok (.rdreg16 0xC#8)
    ∧ decode Cfg.defaults (.req 0x700000003#36) = .ok (.setit 0b11#2)
    ∧ decode Cfg.defaults (.req 0x800000010#36) = .ok (.setgain 1#1)
    ∧ decode Cfg.defaults (.req 0xA00320064#36) = .ok (.lux 100#16 50#16)
    ∧ decode Cfg.defaults (.req 0x800000001#36) = .error .mustBeZero
    ∧ decode Cfg.defaults (.req 0xB00000000#36) = .error .reservedOp
    ∧ decode Cfg.defaults (.frame2 0x8112#16) = .ok (.frameWrite 0x1#8 0x12#8)
    ∧ decode Cfg.defaults (.frame1 0x8A#8) = .ok (.frameRead8 0xA#8)
    ∧ decode Cfg.defaults (.frame1 0xAC#8) = .ok (.frameRead16 0xC#8)

/-- R11, R86: the bitwise OR of the command byte "loses nothing", and no other bit is ever set. -/
def Obligations.CommandByteKeepsItsThreeFields : Prop :=
  ∀ (c : Cfg) (reg : RegAddr) (w : Bool), c.WF → c.IsReg reg →
    cmd c reg w &&& c.regMask = reg
      ∧ cmd c reg w &&& c.commandBit = c.commandBit
      ∧ cmd c reg w &&& c.readWordBit = (if w then c.readWordBit else 0)
      ∧ cmd c reg w &&& ~~~(c.commandBit ||| c.readWordBit ||| c.regMask) = 0

/-! ### The register access operations and the bus frames -/

/-- R110: WRREG, its encoding and its whole effect, whatever the bus answers. -/
def Obligations.WrregWritesOneRegisterAndAnswersItsStatus : Prop :=
  (∀ (r : BitVec 4) (v : Byte),
      decode Cfg.defaults (.req (0x1#4 ++ (0#20 ++ (r ++ v)))) = .ok (.wrreg (r.setWidth 8) v))
    ∧ ∀ (reg : RegAddr) (v : Byte) (s : State), s.Returns 1 →
      exec (.wrreg reg v) s = .next (s.afterRequest 1
        (writeTrace s.addr [s.cfg.commandBit ||| reg, v] (s.answerAt 0).ok)
        (if (s.answerAt 0).ok then .ok else .busFail) 0)

/-- R111: RDREG, its encoding and its whole effect: the byte read, or 0 and BUSFAIL when either bus call failed. -/
def Obligations.RdregReadsOneByteOrZero : Prop :=
  (∀ r : BitVec 4, decode Cfg.defaults (.req (0x2#4 ++ (0#20 ++ (r ++ 0#8)))) = .ok (.rdreg (r.setWidth 8)))
    ∧ ∀ (reg : RegAddr) (s : State), s.Returns (s.readCalls 0) →
      exec (.rdreg reg) s = .next (s.afterRequest (s.readCalls 0)
        (s.readTrace 0 [s.cfg.commandBit ||| reg] 1)
        (if (s.readData 0 1).isSome then .ok else .busFail) ((byteOf (s.readData 0 1)).setWidth 32))

/-- R112: RDREG16, its encoding and its whole effect: the word with its low byte first, or 0 and BUSFAIL. -/
def Obligations.Rdreg16ReadsOneWordLowByteFirstOrZero : Prop :=
  (∀ r : BitVec 4, decode Cfg.defaults (.req (0x3#4 ++ (0#20 ++ (r ++ 0#8)))) = .ok (.rdreg16 (r.setWidth 8)))
    ∧ ∀ (reg : RegAddr) (s : State), s.Returns (s.readCalls 0) →
      exec (.rdreg16 reg) s = .next (s.afterRequest (s.readCalls 0)
        (s.readTrace 0 [s.cfg.commandBit ||| s.cfg.readWordBit ||| reg] 2)
        (if (s.readData 0 2).isSome then .ok else .busFail) ((word16Of (s.readData 0 2)).setWidth 32))

/-- R87 to R89 with R54 to R56, read as operations by the model's choice (notes/assumptions/7.md): a frame is its bus
access and answers nothing to the host. -/
def Obligations.BusFramesAreTheirRegisterAccess : Prop :=
  ∀ (reg : RegAddr) (v : Byte) (s : State),
    (s.Returns 1 → exec (.frameWrite reg v) s = .next { s.afterBus 1
        (writeTrace s.addr [s.cfg.commandBit ||| reg, v] (s.answerAt 0).ok) with run := none })
      ∧ (s.Returns (s.readCalls 0) → exec (.frameRead8 reg) s = .next { s.afterBus (s.readCalls 0)
        (s.readTrace 0 [s.cfg.commandBit ||| reg] 1) with run := none })
      ∧ (s.Returns (s.readCalls 0) → exec (.frameRead16 reg) s = .next { s.afterBus (s.readCalls 0)
        (s.readTrace 0 [s.cfg.commandBit ||| s.cfg.readWordBit ||| reg] 2) with run := none })

/-! ### Power control and device state -/

/-- R130, R131: ENABLE and DISABLE write the sentinel to CONTROL and answer the status of that write. -/
def Obligations.EnableAndDisableWriteTheirSentinel : Prop :=
  decode Cfg.defaults (.req 0x400000000#36) = .ok .enable
    ∧ decode Cfg.defaults (.req 0x500000000#36) = .ok .disable
    ∧ ∀ s : State, s.Returns 1 →
      exec .enable s = .next (s.afterRequest 1
        (writeTrace s.addr [s.cfg.commandBit ||| s.cfg.regControl, s.cfg.ctrlOn] (s.answerAt 0).ok)
        (if (s.answerAt 0).ok then .ok else .busFail) 0)
      ∧ exec .disable s = .next (s.afterRequest 1
        (writeTrace s.addr [s.cfg.commandBit ||| s.cfg.regControl, s.cfg.ctrlOff] (s.answerAt 0).ok)
        (if (s.answerAt 0).ok then .ok else .busFail) 0)

/-- R132: INIT, whole, whatever the bus answers: the five steps with their events in order, `INIT_POWER` exactly when
bit 0 of the CONTROL byte is 0, `PKG`, `G` and `IT` always written from what was read (0 for a failed read), nothing
else changed, status OK. `k1`, `k2`, `k3` count the bus calls made before the second and third read and the last
write. -/
def Obligations.InitLoadsTheDeviceRegistersFromTheSensor : Prop :=
  decode Cfg.defaults (.req 0x600000000#36) = .ok .init
    ∧ ∀ s : State,
      let k1 := 1 + s.readCalls 1
      let k2 := k1 + s.readCalls k1
      let k3 := k2 + s.readCalls k2
      let c := byteOf (s.readData 1 1)
      let i := byteOf (s.readData k1 1)
      let t := byteOf (s.readData k2 1)
      s.Returns (k3 + 1) → exec .init s = .next { s.afterRequest (k3 + 1)
          (writeTrace s.addr [s.cfg.commandBit ||| s.cfg.regControl, s.cfg.ctrlOn] (s.answerAt 0).ok
            ++ s.readTrace 1 [s.cfg.commandBit ||| s.cfg.regControl] 1
            ++ (if c.getLsbD 0 then [] else [.diag .initPower])
            ++ s.readTrace k1 [s.cfg.commandBit ||| s.cfg.regId] 1
            ++ s.readTrace k2 [s.cfg.commandBit ||| s.cfg.regTiming] 1
            ++ writeTrace s.addr [s.cfg.commandBit ||| s.cfg.regControl, s.cfg.ctrlOff] (s.answerAt k3).ok)
          .ok 0 with
        pkg := i.extractLsb 7 6, pkgWritten := true
        g := t.extractLsb 4 4, gWritten := true
        it := t.extractLsb 1 0, itWritten := true }

/-- R133, but for the fault it names on an unwritten `G` (notes/assumptions/1.md): SETIT makes the bracketed TIMING write
of the stored gain bit with the new mode, updates `IT` whatever the bus answered, leaves `G` unchanged, and answers
OK. -/
def Obligations.SetitWritesBothTimingFieldsAndUpdatesIT : Prop :=
  (∀ it : BitVec 2, decode Cfg.defaults (.req (0x7#4 ++ (0#30 ++ it))) = .ok (.setit it))
    ∧ ∀ (it : BitVec 2) (s : State), s.Returns 3 →
      exec (.setit it) s = .next { s.afterRequest 3
          (writeTrace s.addr [s.cfg.commandBit ||| s.cfg.regControl, s.cfg.ctrlOn] (s.answerAt 0).ok
            ++ writeTrace s.addr [s.cfg.commandBit ||| s.cfg.regTiming, 0#3 ++ s.g ++ 0#2 ++ it] (s.answerAt 1).ok
            ++ writeTrace s.addr [s.cfg.commandBit ||| s.cfg.regControl, s.cfg.ctrlOff] (s.answerAt 2).ok)
          .ok 0 with it := it, itWritten := true }

/-- R134, but for the fault it names on an unwritten `IT` (notes/assumptions/1.md): SETGAIN, as SETIT with the roles
swapped. -/
def Obligations.SetgainWritesBothTimingFieldsAndUpdatesG : Prop :=
  (∀ g : BitVec 1, decode Cfg.defaults (.req (0x8#4 ++ (0#27 ++ (g ++ 0#4)))) = .ok (.setgain g))
    ∧ ∀ (g : BitVec 1) (s : State), s.Returns 3 →
      exec (.setgain g) s = .next { s.afterRequest 3
          (writeTrace s.addr [s.cfg.commandBit ||| s.cfg.regControl, s.cfg.ctrlOn] (s.answerAt 0).ok
            ++ writeTrace s.addr [s.cfg.commandBit ||| s.cfg.regTiming, 0#3 ++ g ++ 0#2 ++ s.it] (s.answerAt 1).ok
            ++ writeTrace s.addr [s.cfg.commandBit ||| s.cfg.regControl, s.cfg.ctrlOff] (s.answerAt 2).ok)
          .ok 0 with g := g, gWritten := true }

/-! ### Channel acquisition -/

/-- R150, R151, but for the fault named on an unwritten `IT` (notes/assumptions/1.md): when its calls are answered, RDCHAN
makes the bracket, one delay chosen by `IT` between the power-up write and the first read, reads channel 0 before
channel 1, answers both counts and OK, and writes no register. -/
def Obligations.RdchanWaitsAndReadsBothChannels : Prop :=
  decode Cfg.defaults (.req 0x900000000#36) = .ok .rdchan
    ∧ ∀ s : State,
      let k1 := 1 + s.readCalls 1
      let k2 := k1 + s.readCalls k1
      s.Returns (k2 + 2) → exec .rdchan s = .next (s.looked.afterRequest (k2 + 1)
        (writeTrace s.addr [s.cfg.commandBit ||| s.cfg.regControl, s.cfg.ctrlOn] (s.answerAt 0).ok
          ++ [.delay (if s.it = s.cfg.itFast then s.cfg.waitFast
                      else if s.it = s.cfg.itMedium then s.cfg.waitMedium else s.cfg.waitDefault)]
          ++ s.readTrace 1 [s.cfg.commandBit ||| s.cfg.readWordBit ||| s.cfg.regCh0Low] 2
          ++ s.readTrace k1 [s.cfg.commandBit ||| s.cfg.readWordBit ||| s.cfg.regCh1Low] 2
          ++ writeTrace s.addr [s.cfg.commandBit ||| s.cfg.regControl, s.cfg.ctrlOff] (s.answerAt k2).ok)
        .ok (word16Of (s.readData k1 2) ++ word16Of (s.readData 1 2)))

/-- R150, R151, R152, but for the fault R150 names on an unwritten `IT` (notes/assumptions/1.md): "RDCHAN always blocks for the whole wait and cannot be cancelled". While the delay has not
returned, RDCHAN has made the power-up write and the call of `Delay` and nothing else, and is busy with no response; from
there a step makes no call, presents no request and gives no response until the delay returns; then the two reads and
the power-down write follow; "and a run in which that collaborator never answers is a hang of RDCHAN". One look at the
collaborator per step, and a call entering the trace when it is answered, is the model's choice
(notes/assumptions/10.md). -/
def Obligations.RdchanBlocksUntilTheDelayReturns : Prop :=
  (∀ s : State, s.returnsAt 0 = true → s.returnsAt 1 = false → ∃ t, exec .rdchan s = .next t
      ∧ t.pendingCall = some (.delay (if s.it = s.cfg.itFast then s.cfg.waitFast
                                      else if s.it = s.cfg.itMedium then s.cfg.waitMedium else s.cfg.waitDefault))
      ∧ t = { s.looked.afterBus 1
        (writeTrace s.addr [s.cfg.commandBit ||| s.cfg.regControl, s.cfg.ctrlOn] (s.answerAt 0).ok) with run := t.run })
    ∧ (∀ (s : State) (d : Nat), s.pendingCall = some (.delay d) → s.returnsAt 0 = false → step s = .next s.looked)
    ∧ (∀ (s : State) (d : Nat), s.pendingCall = some (.delay d) →
      let k1 := s.readCalls 0
      let k2 := k1 + s.readCalls k1
      s.Returns (k2 + 2) → step s = .next (s.looked.afterRequest (k2 + 1)
        ([.delay d]
          ++ s.readTrace 0 [s.cfg.commandBit ||| s.cfg.readWordBit ||| s.cfg.regCh0Low] 2
          ++ s.readTrace k1 [s.cfg.commandBit ||| s.cfg.readWordBit ||| s.cfg.regCh1Low] 2
          ++ writeTrace s.addr [s.cfg.commandBit ||| s.cfg.regControl, s.cfg.ctrlOff] (s.answerAt k2).ok)
        .ok (word16Of (s.readData k1 2) ++ word16Of (s.readData 0 2))))
    ∧ ∀ (s : State) (d k : Nat), s.pendingCall = some (.delay d) → (∀ n < k, s.returnsAt n = false) →
      Host.Core.run Sys2Proof.core k s = .next (s.afterLooks k)

/-! ### Lux conversion -/

/-- R160 with R162 to R178 and R186, but for the fault named on an unwritten register (notes/assumptions/1.md): LUX, in
the integers. The coefficients are those of the first of bands 1 to 7 whose threshold is not below the ratio, else of
band 8, of the package's table, or 0 for the unknown package; the natural-number subtraction is the clamp. No bus call,
no state written, at most the one diagnostic. Of the `data` of a lux of more than 32 bits, which the default parameters
never give, nothing is said. -/
def Obligations.LuxConvertsTheCountsWithTheStoredSettings : Prop :=
  (∀ raw0 raw1 : Word16, decode Cfg.defaults (.req (0xA#4 ++ (raw1 ++ raw0))) = .ok (.lux raw0 raw1))
    ∧ ∀ (raw0 raw1 : Word16) (s : State),
      let c := s.cfg
      let chScale := (if s.it = c.itFast then c.chscaleFast
                      else if s.it = c.itMedium then c.chscaleMedium else 2 ^ c.chScale)
                     * (if s.g = c.gainLowCode then 16 else 1)
      let channel0 := raw0.toNat * chScale / 2 ^ c.chScale
      let channel1 := raw1.toNat * chScale / 2 ^ c.chScale
      let ratio := if channel0 = 0 then 0 else (channel1 * 2 ^ (c.ratioScale + 1) / channel0 + 1) / 2
      let known := s.pkg = c.pkgCs ∨ s.pkg = c.pkgTfncl
      let table := if s.pkg = c.pkgCs then c.tableCs else c.tableTfncl
      ∃ coeffB coeffM : Nat,
        (¬ known → coeffB = 0 ∧ coeffM = 0)
        ∧ (known → ∃ i : Fin 8, coeffB = table[i].b ∧ coeffM = table[i].m
            ∧ (i < 7 → ratio ≤ table[i].k) ∧ ∀ j : Fin 8, j < i → table[j].k < ratio)
        ∧ let lux := (channel0 * coeffB - channel1 * coeffM + 2 ^ (c.luxScale - 1)) / 2 ^ c.luxScale
          ∃ data : BitVec 32, (lux < 2 ^ 32 → data.toNat = lux)
            ∧ exec (.lux raw0 raw1) s = .next (s.afterRequest 0
                (if known then [] else [.diag .pkgUnknown]) .ok data)

/-- R195: `PKG_UNKNOWN` is raised exactly once per LUX executed while the package is unknown, with lux 0 (under the
constraint of R10), and by no other operation; INIT does not raise it. That LUX answers where a register it reads is
unwritten, for which R160 names a fault, is the model's choice (notes/assumptions/1.md). -/
def Obligations.UnknownPackageIsReportedByLuxAloneAndGivesZero : Prop :=
  (∀ (raw0 raw1 : Word16) (s : State), 1 ≤ s.cfg.luxScale →
      s.pkg ≠ s.cfg.pkgCs → s.pkg ≠ s.cfg.pkgTfncl →
        exec (.lux raw0 raw1) s = .next (s.afterRequest 0 [.diag .pkgUnknown] .ok 0))
    ∧ ∀ (i : Instr) (s t : State), exec i s = .next t →
        ((∀ raw0 raw1, i ≠ .lux raw0 raw1) ∨ s.pkg = s.cfg.pkgCs ∨ s.pkg = s.cfg.pkgTfncl) →
          t.trace.count (.diag .pkgUnknown) = s.trace.count (.diag .pkgUnknown)

/-- R178, R180: "with the default constants it never exceeds 966679", whatever the settings, the package and the
counts. That LUX answers where a register it reads is unwritten, for which R160 names a fault, is the model's choice
(notes/assumptions/1.md). -/
def Obligations.DefaultLuxNeverExceeds966679 : Prop :=
  ∀ (raw0 raw1 : Word16) (s : State), s.cfg = Cfg.defaults →
    ∃ t data, exec (.lux raw0 raw1) s = .next t ∧ t.responses = s.responses ++ [⟨.ok, data⟩]
      ∧ data.toNat ≤ 966679

/-- R180: "A datapath of 36 bits therefore never wraps", under the default constants: every intermediate value of the
conversion is below `2^36`. -/
def Obligations.DefaultDatapathFits36Bits : Prop :=
  ∀ (it : BitVec 2) (g : BitVec 1) (pkg : BitVec 2) (raw0 raw1 : Word16),
    let c := Cfg.defaults
    let chScale := gainAdjust c g (chscaleOf c it)
    let channel0 := normalize c chScale raw0
    let channel1 := normalize c chScale raw1
    let ratio := ratioOf c channel0 channel1
    let coeff := coefficients c pkg ratio
    raw0.toNat * chScale < 2 ^ 36 ∧ raw1.toNat * chScale < 2 ^ 36
      ∧ channel1 <<< (c.ratioScale + 1) < 2 ^ 36
      ∧ ratio < 2 ^ 36
      ∧ channel0 * coeff.1 < 2 ^ 36 ∧ channel1 * coeff.2 < 2 ^ 36
      ∧ roundUp c (clampedDiff (channel0 * coeff.1) (channel1 * coeff.2)) < 2 ^ 36

/-- R184 (P4), R172: the band selected never decreases as the ratio grows, for any table. -/
def Obligations.BandSelectionIsMonotonic : Prop :=
  ∀ (t : CoeffTable) (r r' : Nat), r ≤ r' → bandIndex t r ≤ bandIndex t r'

/-- R174, R184 (P5): where `channel1*M > channel0*B` the answer is 0, "never a wrapped/huge unsigned value", and
nothing is reported for it when the package is known. That LUX answers where a register it reads is unwritten, for which
R160 names a fault, is the model's choice (notes/assumptions/1.md). -/
def Obligations.UnderflowIsClampedToZero : Prop :=
  ∀ (raw0 raw1 : Word16) (s : State), 1 ≤ s.cfg.luxScale →
    let chScale := gainAdjust s.cfg s.g (chscaleOf s.cfg s.it)
    let channel0 := normalize s.cfg chScale raw0
    let channel1 := normalize s.cfg chScale raw1
    let coeff := coefficients s.cfg s.pkg (ratioOf s.cfg channel0 channel1)
    channel0 * coeff.1 < channel1 * coeff.2 →
      exec (.lux raw0 raw1) s = .next (s.afterRequest 0 [] .ok 0)

/-- R176: the final rounding is to the nearest integer, a half rounding up, and one less than a half rounding down. -/
def Obligations.FinalRoundingIsToNearestHalfUp : Prop :=
  ∀ (c : Cfg) (temp q : Nat), 1 ≤ c.luxScale →
    scaleOut c (roundUp c temp) * 2 ^ c.luxScale ≤ temp + 2 ^ (c.luxScale - 1)
      ∧ temp + 2 ^ (c.luxScale - 1) < (scaleOut c (roundUp c temp) + 1) * 2 ^ c.luxScale
      ∧ scaleOut c (roundUp c (q * 2 ^ c.luxScale + 2 ^ (c.luxScale - 1))) = q + 1
      ∧ scaleOut c (roundUp c (q * 2 ^ c.luxScale + 2 ^ (c.luxScale - 1) - 1)) = q

/-- R184 (P8): "lux is 0 whenever `raw0 == 0` under the default constants". That LUX answers where a register it reads is
unwritten, for which R160 names a fault, is the model's choice (notes/assumptions/1.md). -/
def Obligations.ZeroBroadbandCountGivesZeroLux : Prop :=
  ∀ (raw1 : Word16) (s : State), s.cfg = Cfg.defaults →
    exec (.lux 0 raw1) s = .next (s.afterRequest 0
      (if s.pkg = s.cfg.pkgCs ∨ s.pkg = s.cfg.pkgTfncl then [] else [.diag .pkgUnknown]) .ok 0)

/-- 90_conflicts.md C1, 95_test_vectors.md 4.9: with the other value of the open parameter `GAIN_LOW_CODE` "the roles of
`G = 0` and `G = 1` are exchanged and nothing else changes": every operation but LUX does what it did, and LUX does what
it did with the other stored gain bit. -/
def Obligations.GainPolarityOnlyExchangesTheGainBit : Prop :=
  (∀ (i : Instr) (s t : State), (∀ raw0 raw1, i ≠ .lux raw0 raw1) → exec i s = .next t →
      exec i s.otherPolarity = .next t.otherPolarity)
    ∧ ∀ (raw0 raw1 : Word16) (s t : State), exec (.lux raw0 raw1) { s with g := ~~~s.g } = .next t →
      exec (.lux raw0 raw1) s.otherPolarity = .next { t.otherPolarity with g := s.g }

/-! ### Registers, faults and reset -/

/-- R22 to R25: which operation reads which register. An operation answers a next state, and its events, response and
inputs taken do not depend on a register it does not read, nor on whether any has been written; so what a register holds
after reset (notes/assumptions/1.md) shows through no operation but those of R25's table. That SETIT, SETGAIN, RDCHAN and
LUX answer, written or not, where R25 names a fault on an unwritten register, is the model's choice
(notes/assumptions/1.md). -/
def Obligations.OperationsDependOnlyOnTheRegistersTheyRead : Prop :=
  ∀ (i : Instr) (s : State) (g : BitVec 1) (it pkg : BitVec 2) (gw iw pw : Bool), ∃ t t',
    exec i s = .next t
      ∧ exec i { s with g := (if i.readsG then s.g else g), it := (if i.readsIT then s.it else it),
                        pkg := (if i.readsPKG then s.pkg else pkg),
                        gWritten := gw, itWritten := iw, pkgWritten := pw } = .next t'
      ∧ t'.trace = t.trace ∧ t'.responses = t.responses ∧ t'.run = t.run
      ∧ t'.calls = t.calls ∧ t'.answers = t.answers ∧ t'.looks = t.looks ∧ t'.returns = t.returns

/-- R25, R132, R222: INIT "reads none of them and writes all three", so whatever `G`, `IT` and `PKG` held and whether or
not they were written, the state after it is the same, once the bus has answered it. -/
def Obligations.InitForgetsWhatTheRegistersHeld : Prop :=
  ∀ (s : State) (g : BitVec 1) (it pkg : BitVec 2) (gw iw pw : Bool), s.Returns 8 →
    exec .init { s with g := g, it := it, pkg := pkg, gWritten := gw, itWritten := iw, pkgWritten := pw } = exec .init s

/-- R25: "after one INIT (whatever the bus answered) no operation" reads an unwritten register: INIT makes all three
readable, no step, of a busy block either, takes that away, and then no operation is one the rule calls a fault. -/
def Obligations.InitMakesTheRegistersReadableForGood : Prop :=
  (∀ s : State, s.Returns 8 → ∃ t, exec .init s = .next t ∧ t.AllWritten)
    ∧ (∀ s t : State, s.AllWritten → step s = .next t → t.AllWritten)
    ∧ ∀ (i : Instr) (s : State), s.AllWritten → ¬ s.ReadsUnwritten i

/-- R21 to R24, R113: who writes which device register. `ADDR` is written by nothing, `PKG` by INIT only, `IT` by INIT
and SETIT, `G` by INIT and SETGAIN. -/
def Obligations.DeviceRegistersAreWrittenOnlyByTheirOperations : Prop :=
  ∀ (i : Instr) (s t : State), exec i s = .next t →
    t.addr = s.addr ∧ t.cfg = s.cfg
      ∧ (i ≠ .init → t.pkg = s.pkg ∧ t.pkgWritten = s.pkgWritten)
      ∧ (i ≠ .init → (∀ it, i ≠ .setit it) → t.it = s.it ∧ t.itWritten = s.itWritten)
      ∧ (i ≠ .init → (∀ g, i ≠ .setgain g) → t.g = s.g ∧ t.gWritten = s.gWritten)

/-- R220, R221, but for the fault they name on a read of an unwritten register (notes/assumptions/1.md): reset from any
state, an operation in flight or blocked included: it makes no call and gives no response, `ADDR` and the parameters
stay, the block is idle, `G`, `IT` and `PKG` are unwritten and hold what they hold in `State.reset` whatever they held,
and SETIT, SETGAIN, RDCHAN and LUX would read an unwritten register. -/
def Obligations.ResetAbandonsTheOperationAndUnwritesTheRegisters : Prop :=
  ∀ (s : State) (it : BitVec 2) (g : BitVec 1) (raw0 raw1 : Word16),
    s.applyReset.busy = false ∧ s.applyReset.addr = s.addr ∧ s.applyReset.cfg = s.cfg
      ∧ s.applyReset.trace = s.trace ∧ s.applyReset.responses = s.responses ∧ s.applyReset.calls = s.calls
      ∧ s.applyReset.gWritten = false ∧ s.applyReset.itWritten = false ∧ s.applyReset.pkgWritten = false
      ∧ s.applyReset.g = State.reset.g ∧ s.applyReset.it = State.reset.it ∧ s.applyReset.pkg = State.reset.pkg
      ∧ s.applyReset.ReadsUnwritten (.setit it) ∧ s.applyReset.ReadsUnwritten (.setgain g)
      ∧ s.applyReset.ReadsUnwritten .rdchan ∧ s.applyReset.ReadsUnwritten (.lux raw0 raw1)

/-! ### The machine -/

/-- R7, R26, R81: idle, a step executes the request its next word decodes to. The rest is the model's choice: a frame as
a presented word, run as its access or refused by name when it is none (notes/assumptions/7.md); an idle step without a
word, which changes nothing (8.md); a busy step, which presents nothing and runs the remaining lines (9.md) as far as
the collaborators answer (10.md). -/
def Obligations.StepRunsTheDecodedOperation : Prop :=
  ∀ s : State,
    (∀ (w : PortWord) (rest : List PortWord) (i : Instr), s.run = none → s.requests = w :: rest →
        decode s.cfg w = .ok i → step s = exec i { s with requests := rest })
      ∧ (∀ (w : PortWord) (rest : List PortWord), s.run = none → s.requests = w :: rest →
        decode s.cfg w = .error .notAFrame → step s = .refused .notAFrame)
      ∧ (s.run = none → s.requests = [] → step s = .next s)
      ∧ ∀ r : Running, s.run = some r → r.seq < (linesOf r.op).length →
        step s = .next (runLines ((linesOf r.op).drop r.seq) s)

/-- A word put where the step fetches is the one it runs. Both functions are the model's choice: `withFetchWord` stands
for the host presenting a word to an idle block, so it drops an operation in flight (notes/assumptions/8.md), and the
table word drops the bits above 36 and takes its format from its length (19.md). -/
def Obligations.FetchedWordIsTheOneExecuted : Prop :=
  ∀ (s : State) (nbits w : Nat) (i : Instr), s.cfg = Cfg.defaults → decodeTableWord nbits w = some i →
    step (s.withFetchWord nbits w) = exec i { s with run := none }

/-- The invariant is kept by every step, from every state, busy or idle: the parameters and the address stay legal and
every collaborator call of the trace passes `x[ADDR]`, sends one of the three frames, reads one or two bytes and gets
that many, or waits one of the three durations (R13, R21, R52, R59). -/
def Obligations.StepKeepsTheInvariant : Prop :=
  ∀ s t : State, s.Inv → step s = .next t → t.Inv

/-- The invariant holds after reset (the strap value is the model's choice, notes/assumptions/6.md), the block is idle
and nothing has been called or answered (R41). -/
def Obligations.ResetMeetsTheInvariant : Prop :=
  State.reset.Inv ∧ State.reset.busy = false ∧ State.reset.trace = [] ∧ State.reset.responses = []

/-- R21, R26, R27, R152, R241: no step, of a busy block either, changes `ADDR` or the parameters, and every step leaves
the block idle or blocked inside a collaborator call. That a step ends in the blocked state is the model's choice
(notes/assumptions/10.md). -/
def Obligations.StepKeepsAddressAndParametersAndEndsIdleOrWaiting : Prop :=
  ∀ s t : State, step s = .next t → t.addr = s.addr ∧ t.cfg = s.cfg ∧ t.Settled

/-- R192, R193, R201: in the trace every failed bus call is immediately followed by its diagnostic, a failed write
frame by `BUS_WRITE_FAIL` and a failed read access by `BUS_READ_FAIL`, and neither stands anywhere else. Kept by every
step of a block that is idle or blocked inside a call, which leaves it so; the blocked state, and that a call enters the
trace when it is answered, is the model's choice (notes/assumptions/10.md). -/
def Obligations.FailedCallsAreFollowedByTheirDiagnostic : Prop :=
  ∀ s t : State, s.Settled → DiagsMatchFailures (.delay 0 :: s.trace) → step s = .next t →
    t.Settled ∧ DiagsMatchFailures (.delay 0 :: t.trace)

/-- R113, R200, R205, R241: an operation adds to the trace at most its number of bus calls (INIT: eight) and
diagnostics (INIT: six), and exactly one delay in RDCHAN when it ends, none elsewhere. That one blocked in a call has
added the answered calls only is the model's choice (notes/assumptions/10.md). -/
def Obligations.CallsAndDiagnosticsOfAnOperationAreBounded : Prop :=
  ∀ (i : Instr) (s t : State), exec i s = .next t →
    ∃ es, t.trace = s.trace ++ es
      ∧ es.countP Event.isBusCall ≤ busCallBound i
      ∧ es.countP Event.isDiag ≤ diagBound i
      ∧ es.countP Event.isDelay ≤ delayCount i
      ∧ (t.busy = false → es.countP Event.isDelay = delayCount i)

/-- R135, R152, R241: INIT, SETIT, SETGAIN and RDCHAN each begin with the power-up write (one that has added no event is
blocked in it), and end, when they end, with the power-down write (and the diagnostic of that write, if it failed). The
blocked state, and that a call enters the trace when it is answered (notes/assumptions/10.md), and that an operation runs
where a register it reads is unwritten (1.md), is the model's choice. -/
def Obligations.SequencedOperationsKeepThePowerBracket : Prop :=
  ∀ (i : Instr) (s t : State), IsBracketed i → exec i s = .next t →
    let up := [s.cfg.commandBit ||| s.cfg.regControl, s.cfg.ctrlOn]
    let down := [s.cfg.commandBit ||| s.cfg.regControl, s.cfg.ctrlOff]
    (t.trace = s.trace ∧ t.pendingCall = some (.busWrite up))
      ∨ ∃ (okUp : Bool) (es : List Event), t.trace = s.trace ++ .busWrite s.addr up okUp :: es
        ∧ (t.busy = false → ∃ (inside : List Event) (okDown : Bool), es = inside ++ writeTrace s.addr down okDown)

/-- R137: "after any sequence of SETIT and SETGAIN operations following an INIT, the last TIMING byte written is
`timing(x[G], x[IT])` for the values of `x[G]` and `x[IT]` after the sequence", whatever the bus answered to their
calls, at most 8 and 3 each. -/
def Obligations.LastTimingByteCombinesBothStoredFields : Prop :=
  ∀ (s s' : State) (ops : List Instr), s.cfg.WF → s.Returns (8 + 3 * ops.length) → exec .init s = .next s' →
    ops ≠ [] → (∀ i ∈ ops, IsSetter i) →
    ∃ t, execAll ops s' = .next t ∧ lastTimingWrite t.cfg t.trace = some (timing t.g t.it)

/-- R26: the lines of an operation, run through from its acceptance, do what the operation does as "one function from
(state, request, collaborator answers) to (state, response, trace)", where its calls are answered. The division into
lines (notes/assumptions/9.md), and that an operation runs where a register it reads is unwritten (1.md), is the
model's. -/
def Obligations.SequencerRefinesTheOperations : Prop :=
  ∀ (i : Instr) (s : State), s.Returns (waitBound i) → exec i s = .next (perform i s)

/-- R26, R42, R152: where the calls of an operation are answered when LUXCORE looks, every sequencer step from its
acceptance, where `seq` is 0, is one of three: the last line ends the operation, or `seq` advances by one, or LUXCORE
blocks in the call of its line. Before the end the block is busy with the operation, has given no response, and `step`
from there ends as the whole operation does; and the end comes. The division into lines
(notes/assumptions/9.md), and that an operation runs where a register it reads is unwritten (1.md), is the model's. -/
def Obligations.SequencerIsBusyUntilItsLastLine : Prop :=
  ∀ (i : Instr) (s : State), s.Returns (waitBound i) →
    (s.accept i).run = some { op := i, seq := 0 }
      ∧ (∀ (k : Nat) (t : State), seqSteps k (s.accept i) = .next t →
        (t.busy = false ∧ exec i s = .next t)
          ∨ ∃ r u, t.run = some r ∧ r.op = i ∧ r.seq < (linesOf i).length ∧ t.responses = s.responses
              ∧ step t = exec i s ∧ seqStep t = .next u
              ∧ ((r.seq + 1 = (linesOf i).length ∧ u.busy = false)
                ∨ (∃ l, u.run = some { op := i, seq := r.seq + 1, waiting := false, loc := l })
                ∨ (r.waiting = false ∧ u = t.blocked ∧ ∃ x, u.pendingCall = some x)))
      ∧ ∃ k t, k ≤ 2 * (linesOf i).length ∧ seqSteps k (s.accept i) = .next t ∧ t.busy = false

/-- R84, R241: a run of an idle block with request words to come never stops, and where every call is answered when
LUXCORE looks, each request presented gets exactly one response in its step, and the words not yet presented are
untouched. That a request that reads an unwritten register is answered, where R25 names a fault (notes/assumptions/1.md),
and that the steps past the last word change nothing (8.md), is the model's choice. -/
def Obligations.RunsCompleteWithOneResponsePerRequest : Prop :=
  ∀ (s : State) (k : Nat), s.run = none → (∀ w ∈ s.requests, ∃ b, w = .req b) →
    ∃ t, Host.Core.run Sys2Proof.core k s = .next t
      ∧ (s.Returns (8 * k) → t.run = none ∧ t.requests = s.requests.drop k
          ∧ t.responses.length = s.responses.length + min k s.requests.length)

/-- R241, R26, R152: "Every operation ends if every collaborator call it makes is answered" when LUXCORE looks; where it
has not ended it has given no response and is blocked in a call; "A collaborator that never answers hangs the operation
for good", with nothing changed but the looks (the model's counter, notes/assumptions/10.md): in its first call, which
every operation but LUX makes before anything else is changed, and in every later one, of the bus as of the delay; and
one blocked so goes on to its end if its calls are answered then. That SETIT, SETGAIN, RDCHAN and LUX make their calls
and end where a register they read is unwritten, for which R25 names a fault, is the model's choice
(notes/assumptions/1.md). -/
def Obligations.OperationsEndWhenAnsweredAndHangWhenNot : Prop :=
  (∀ (i : Instr) (s : State), s.Returns (waitBound i) → ∃ t, exec i s = .next t ∧ t.busy = false)
    ∧ (∀ (i : Instr) (s t : State), exec i s = .next t → t.busy = true →
      t.responses = s.responses ∧ ∃ x, t.pendingCall = some x)
    ∧ (∀ (i : Instr) (s : State), (∀ raw0 raw1, i ≠ .lux raw0 raw1) → s.returnsAt 0 = false →
      ∃ t, exec i s = .next t ∧ t.busy = true ∧ t = { s.looked with run := t.run })
    ∧ (∀ (s : State) (x : Call) (k : Nat), s.pendingCall = some x → (∀ n < k, s.returnsAt n = false) →
      Host.Core.run Sys2Proof.core k s = .next (s.afterLooks k))
    ∧ ∀ (s : State) (x : Call), s.pendingCall = some x → s.Returns 8 → ∃ t, step s = .next t ∧ t.busy = false

/-- R9, R39: what has been reported and answered leaves nothing behind: two machines that differ only in their past
trace and responses take the same step and add the same events and responses. -/
def Obligations.HistoryDoesNotInfluenceTheMachine : Prop :=
  ∀ (s t : State) (tr : List Event) (rs : List Response), step s = .next t →
    ∃ es ns, t.trace = s.trace ++ es ∧ t.responses = s.responses ++ ns
      ∧ step { s with trace := tr, responses := rs } = .next { t with trace := tr ++ es, responses := rs ++ ns }

/-- R96, R84: MEASURE is RDCHAN followed, when it has ended, by LUX on the counts RDCHAN answered, and that answer's
`data` is a valid payload of a LUX request. That the two answer where a register they read is unwritten is the model's
choice (notes/assumptions/1.md). -/
def Obligations.MeasureIsRdchanThenLuxOnItsCounts : Prop :=
  ∀ s t : State, exec .rdchan s = .next t → t.busy = false →
    ∃ ch0 ch1 : Word16, t.responses = s.responses ++ [⟨.ok, ch1 ++ ch0⟩]
      ∧ measure s = exec (.lux ch0 ch1) t
      ∧ decode t.cfg (.req (0xA#4 ++ (ch1 ++ ch0))) = .ok (.lux ch0 ch1)

/-- R95: what the assembler produces is an operation of the machine, so it has an encoding. -/
def Obligations.AssembledLinesAreWellFormed : Prop :=
  ∀ (c : Cfg) (m : AsmMnemonic) (ops : List AsmOperand) (i : Instr), c.WF → assemble c m ops = some i →
    i.wf c = true ∧ decode c (encode c i) = .ok i

/-- R95: which operation each line stands for. Numbers are taken as they are, in the order of the operands, within their
bounds and not beyond them; a name stands for its value; `DEFAULT` is 0b10 and `HIGH` the gain code that is not `LOW`. -/
def Obligations.AssemblerGivesTheOperationOfEachLine : Prop :=
  ∀ c : Cfg, c.WF →
    (∀ r v : Nat, assemble c .wrreg [.num r, .num v]
        = if r < 2 ^ c.regW ∧ v < 256 then some (.wrreg (BitVec.ofNat 8 r) (BitVec.ofNat 8 v)) else none)
      ∧ (∀ r : Nat, assemble c .rdreg [.num r] = (if r < 2 ^ c.regW then some (.rdreg (BitVec.ofNat 8 r)) else none)
          ∧ assemble c .rdreg16 [.num r] = if r < 2 ^ c.regW then some (.rdreg16 (BitVec.ofNat 8 r)) else none)
      ∧ (∀ x ∈ [(AsmOperand.control, c.regControl), (.timing, c.regTiming), (.id, c.regId), (.ch0, c.regCh0Low),
                (.ch1, c.regCh1Low)],
          assemble c .rdreg [x.1] = some (.rdreg x.2) ∧ assemble c .rdreg16 [x.1] = some (.rdreg16 x.2)
            ∧ ∀ v : Byte, assemble c .wrreg [x.1, .num v.toNat] = some (.wrreg x.2 v))
      ∧ assemble c .enable [] = some .enable ∧ assemble c .disable [] = some .disable
      ∧ assemble c .init [] = some .init ∧ assemble c .rdchan [] = some .rdchan
      ∧ (∀ n : Nat, assemble c .setit [.num n] = if n < 4 then some (.setit (BitVec.ofNat 2 n)) else none)
      ∧ assemble c .setit [.fast] = some (.setit c.itFast) ∧ assemble c .setit [.medium] = some (.setit c.itMedium)
      ∧ assemble c .setit [.default] = some (.setit 0b10#2)
      ∧ (∀ n : Nat, assemble c .setgain [.num n] = if n < 2 then some (.setgain (BitVec.ofNat 1 n)) else none)
      ∧ assemble c .setgain [.low] = some (.setgain c.gainLowCode)
      ∧ assemble c .setgain [.high] = some (.setgain (~~~c.gainLowCode))
      ∧ ∀ a b : Nat, assemble c .lux [.num a, .num b]
          = if a < 65536 ∧ b < 65536 then some (.lux (BitVec.ofNat 16 a) (BitVec.ofNat 16 b)) else none

/-! ### Status and diagnostic codes -/

/-- R84, R85, R191: the response as a word, `status` in bits 33:32 and `data` in bits 31:0; the codes of `status` and of
the diagnostics; and what an operation answers: one response when it ends and none while it is blocked, none for a bus
frame (notes/assumptions/7.md), never REFUSED, and BUSFAIL from the five single accesses alone. The blocked state
(10.md), and that an operation answers where a register it reads is unwritten (1.md), is the model's choice. -/
def Obligations.ResponsesAndDiagnosticsCarryTheirCodes : Prop :=
  (∀ r : Response, r.toWord.extractLsb' 0 32 = r.data
      ∧ (r.status = .ok → r.toWord.extractLsb' 32 2 = 0#2)
      ∧ (r.status = .busFail → r.toWord.extractLsb' 32 2 = 1#2)
      ∧ (r.status = .refused → r.toWord.extractLsb' 32 2 = 2#2))
    ∧ (Diag.busWriteFail.code = 1 ∧ Diag.busReadFail.code = 2 ∧ Diag.initPower.code = 3 ∧ Diag.pkgUnknown.code = 4)
    ∧ ∀ (i : Instr) (s t : State), exec i s = .next t →
      ∃ rs, t.responses = s.responses ++ rs ∧ rs.length = (if t.busy = true ∨ i.isFrame then 0 else 1)
        ∧ ∀ r ∈ rs, r.toWord.extractLsb' 32 2 = 0#2 ∨ r.toWord.extractLsb' 32 2 = 1#2 ∧ i.isSingleAccess
end

