-- ==== Sys2Proof/Laws/Encoding.lean ====
section
/-! SUPPORT. The fields of encoded words, bit by bit: what the decoder reads from what the encoder wrote, and that the
command byte's three parts do not overlap. -/

namespace Sys2Proof

/-! ### Request words -/

theorem getLsbD_reqWord (op : BitVec 4) (p : Payload) (i : Nat) :
    BitVec.getLsbD (w := 36) (op ++ p) i = if i < 32 then p.getLsbD i else op.getLsbD (i - 32) :=
  BitVec.getLsbD_append

@[simp] theorem opField_append (op : BitVec 4) (p : Payload) : opField (op ++ p) = op := by
  apply BitVec.eq_of_getLsbD_eq
  intro i hi
  have h : ¬ 32 + i < 32 := by omega
  simp [opField, getLsbD_reqWord, h, hi]

@[simp] theorem payloadField_append (op : BitVec 4) (p : Payload) : payloadField (op ++ p) = p := by
  apply BitVec.eq_of_getLsbD_eq
  intro i hi
  simp [payloadField, getLsbD_reqWord, hi]

/-- A request word is its two fields. -/
theorem opField_append_payloadField (w : ReqBits) : opField w ++ payloadField w = w := by
  apply BitVec.eq_of_getLsbD_eq
  intro i hi
  rw [getLsbD_reqWord]
  by_cases h : i < 32
  · simp [payloadField, h]
  · have h4 : i - 32 < 4 := by omega
    have h32 : 32 + (i - 32) = i := by omega
    simp [opField, h, h4, h32]

/-! ### Payloads -/

/-- A vector of two parts as a number. -/
theorem toNat_append_eq {m n : Nat} (a : BitVec m) (b : BitVec n) : (a ++ b).toNat = a.toNat * 2 ^ n + b.toNat := by
  rw [BitVec.toNat_append, ← Nat.shiftLeft_add_eq_or_of_lt b.isLt, Nat.shiftLeft_eq]

theorem toNat_regPayload (r : RegAddr) (v : Byte) : (regPayload r v).toNat = r.toNat * 256 + v.toNat := by
  have h : (regPayload r v).toNat = (0#16).toNat * 2 ^ 16 + (r ++ v : BitVec 16).toNat := toNat_append_eq ..
  have h' : (r ++ v : BitVec 16).toNat = r.toNat * 2 ^ 8 + v.toNat := toNat_append_eq ..
  simpa [h'] using h

theorem toNat_counts (raw1 raw0 : Word16) : (raw1 ++ raw0 : BitVec 32).toNat = raw1.toNat * 65536 + raw0.toNat :=
  toNat_append_eq ..

@[simp] theorem valueField_regPayload (r : RegAddr) (v : Byte) : valueField (regPayload r v) = v := by
  apply BitVec.eq_of_toNat_eq
  simp only [valueField, BitVec.extractLsb'_toNat, toNat_regPayload]
  have := v.isLt
  omega

@[simp] theorem regField_regPayload (r : RegAddr) (v : Byte) : regField (regPayload r v) = r := by
  apply BitVec.eq_of_toNat_eq
  simp only [regField, BitVec.extractLsb'_toNat, toNat_regPayload]
  have := v.isLt
  have := r.isLt
  omega

theorem aboveRegZero_regPayload {c : Cfg} {r : RegAddr} (h : c.IsReg r) (v : Byte) :
    aboveRegZero c (regPayload r v) = true := by
  have hv := v.isLt
  simp only [Cfg.IsReg] at h
  simp only [aboveRegZero, decide_eq_true_eq, toNat_regPayload, Nat.pow_add]
  omega

@[simp] theorem raw0Field_append (raw1 raw0 : Word16) : raw0Field (raw1 ++ raw0) = raw0 := by
  apply BitVec.eq_of_toNat_eq
  have := raw0.isLt
  simp only [raw0Field, BitVec.extractLsb'_toNat, toNat_counts, Nat.shiftRight_eq_div_pow]
  omega

@[simp] theorem raw1Field_append (raw1 raw0 : Word16) : raw1Field (raw1 ++ raw0) = raw1 := by
  apply BitVec.eq_of_toNat_eq
  have := raw0.isLt
  have := raw1.isLt
  simp only [raw1Field, BitVec.extractLsb'_toNat, toNat_counts, Nat.shiftRight_eq_div_pow]
  omega

/-! ### Frames -/

@[simp] theorem extractLsb'_high_append (b v : Byte) : (b ++ v : BitVec 16).extractLsb' 8 8 = b := by
  apply BitVec.eq_of_toNat_eq
  have h : (b ++ v : BitVec 16).toNat = b.toNat * 2 ^ 8 + v.toNat := toNat_append_eq ..
  have := b.isLt
  have := v.isLt
  simp only [BitVec.extractLsb'_toNat, h, Nat.shiftRight_eq_div_pow]
  omega

@[simp] theorem extractLsb'_low_append (b v : Byte) : (b ++ v : BitVec 16).extractLsb' 0 8 = v := by
  apply BitVec.eq_of_toNat_eq
  have h : (b ++ v : BitVec 16).toNat = b.toNat * 2 ^ 8 + v.toNat := toNat_append_eq ..
  have := v.isLt
  simp only [BitVec.extractLsb'_toNat, h, Nat.shiftRight_eq_div_pow]
  omega

/-! ### The command byte -/

theorem regMask_toNat {c : Cfg} (h : c.regW ≤ 8) : c.regMask.toNat = 2 ^ c.regW - 1 := by
  have : 2 ^ c.regW ≤ 2 ^ 8 := Nat.pow_le_pow_right (by decide) h
  have := Nat.two_pow_pos c.regW
  simp only [Cfg.regMask, BitVec.toNat_ofNat]
  omega

/-- A register address has no bit outside the register field. -/
theorem and_regMask_of_isReg {c : Cfg} (h : c.regW ≤ 8) {r : RegAddr} (hr : c.IsReg r) : r &&& c.regMask = r := by
  apply BitVec.eq_of_toNat_eq
  rw [BitVec.toNat_and, regMask_toNat h, Nat.and_two_pow_sub_one_eq_mod, Nat.mod_eq_of_lt hr]

/-- What the register field holds is a register address. -/
theorem isReg_and_regMask {c : Cfg} (h : c.regW ≤ 8) (b : Byte) : c.IsReg (b &&& c.regMask) := by
  rw [Cfg.IsReg, BitVec.toNat_and, regMask_toNat h, Nat.and_two_pow_sub_one_eq_mod]
  exact Nat.mod_lt _ (Nat.two_pow_pos _)

end Sys2Proof

namespace Sys2Proof.Machine

/-- The command byte of an access that is no word read. -/
@[simp] theorem cmd_false (c : Cfg) (r : RegAddr) : cmd c r false = c.commandBit ||| r := by simp [cmd]

/-- The command byte of a word read. -/
@[simp] theorem cmd_true (c : Cfg) (r : RegAddr) : cmd c r true = c.commandBit ||| c.readWordBit ||| r := by simp [cmd]

/-- The register field of a command byte is the register address (R11, R86). -/
theorem cmd_and_regMask {c : Cfg} (hc : c.WF) {r : RegAddr} (hr : c.IsReg r) (w : Bool) : cmd c r w &&& c.regMask = r := by
  obtain ⟨_, h8, _, hcm, hrm, _⟩ := hc
  have hreg := and_regMask_of_isReg h8 hr
  apply BitVec.eq_of_getLsbD_eq
  intro i _
  have e1 := congrArg (·.getLsbD i) hcm
  have e2 := congrArg (·.getLsbD i) hrm
  have e3 := congrArg (·.getLsbD i) hreg
  simp only [BitVec.getLsbD_and] at e1 e2 e3
  cases w <;> simp only [cmd_false, cmd_true, BitVec.getLsbD_and, BitVec.getLsbD_or] <;>
    cases h1 : c.commandBit.getLsbD i <;> cases h2 : c.regMask.getLsbD i <;> cases h3 : c.readWordBit.getLsbD i <;>
    simp_all

/-- The two command bytes of a register differ (R86, R94): a word read is not taken for a byte read. -/
theorem cmd_true_ne_cmd_false {c : Cfg} (hc : c.WF) {r : RegAddr} (hr : c.IsReg r) : cmd c r true ≠ cmd c r false := by
  obtain ⟨_, h8, hcr, hcm, hrm, _, _, _, _, _, _, _, _, _, hne, _⟩ := hc
  have hreg := and_regMask_of_isReg h8 hr
  intro e
  apply hne
  apply BitVec.eq_of_getLsbD_eq
  intro i _
  have e1 := congrArg (·.getLsbD i) hcm
  have e2 := congrArg (·.getLsbD i) hrm
  have e3 := congrArg (·.getLsbD i) hreg
  have e4 := congrArg (·.getLsbD i) hcr
  have e5 := congrArg (·.getLsbD i) e
  simp only [cmd_false, cmd_true, BitVec.getLsbD_and, BitVec.getLsbD_or] at e1 e2 e3 e4 e5 ⊢
  cases h1 : c.commandBit.getLsbD i <;> cases h2 : c.regMask.getLsbD i <;> cases h3 : c.readWordBit.getLsbD i <;>
    simp_all

/-- Different registers have different command bytes. -/
theorem cmd_injective {c : Cfg} (hc : c.WF) {r r' : RegAddr} (hr : c.IsReg r) (hr' : c.IsReg r') {w w' : Bool}
    (h : cmd c r w = cmd c r' w') : r = r' := by
  rw [← cmd_and_regMask hc hr w, ← cmd_and_regMask hc hr' w', h]

/-- `timing(g, it)` is bit 4 = `g`, bits 1:0 = `it`, "all other bits 0" (R90). -/
theorem timing_eq_fields : ∀ (g : BitVec 1) (it : BitVec 2), timing g it = 0#3 ++ g ++ 0#2 ++ it := by decide

end Sys2Proof.Machine
end

