-- ==== Sys2Proof/Laws/State.lean ====
section
/-! SUPPORT. What each update of the state does to each field: one lemma per field per update, true by rfl, so that no
proof unfolds a record update. -/

namespace Sys2Proof.Machine.State

/-! ### emit -/

@[simp] theorem emit_cfg (s : State) (e : Event) : (s.emit e).cfg = s.cfg := rfl
@[simp] theorem emit_addr (s : State) (e : Event) : (s.emit e).addr = s.addr := rfl
@[simp] theorem emit_g (s : State) (e : Event) : (s.emit e).g = s.g := rfl
@[simp] theorem emit_gWritten (s : State) (e : Event) : (s.emit e).gWritten = s.gWritten := rfl
@[simp] theorem emit_it (s : State) (e : Event) : (s.emit e).it = s.it := rfl
@[simp] theorem emit_itWritten (s : State) (e : Event) : (s.emit e).itWritten = s.itWritten := rfl
@[simp] theorem emit_pkg (s : State) (e : Event) : (s.emit e).pkg = s.pkg := rfl
@[simp] theorem emit_pkgWritten (s : State) (e : Event) : (s.emit e).pkgWritten = s.pkgWritten := rfl
@[simp] theorem emit_run (s : State) (e : Event) : (s.emit e).run = s.run := rfl
@[simp] theorem emit_requests (s : State) (e : Event) : (s.emit e).requests = s.requests := rfl
@[simp] theorem emit_answers (s : State) (e : Event) : (s.emit e).answers = s.answers := rfl
@[simp] theorem emit_calls (s : State) (e : Event) : (s.emit e).calls = s.calls := rfl
@[simp] theorem emit_returns (s : State) (e : Event) : (s.emit e).returns = s.returns := rfl
@[simp] theorem emit_looks (s : State) (e : Event) : (s.emit e).looks = s.looks := rfl
@[simp] theorem emit_trace (s : State) (e : Event) : (s.emit e).trace = s.trace ++ [e] := rfl
@[simp] theorem emit_responses (s : State) (e : Event) : (s.emit e).responses = s.responses := rfl

/-! ### looked -/

@[simp] theorem looked_cfg (s : State) : (s.looked).cfg = s.cfg := rfl
@[simp] theorem looked_addr (s : State) : (s.looked).addr = s.addr := rfl
@[simp] theorem looked_g (s : State) : (s.looked).g = s.g := rfl
@[simp] theorem looked_gWritten (s : State) : (s.looked).gWritten = s.gWritten := rfl
@[simp] theorem looked_it (s : State) : (s.looked).it = s.it := rfl
@[simp] theorem looked_itWritten (s : State) : (s.looked).itWritten = s.itWritten := rfl
@[simp] theorem looked_pkg (s : State) : (s.looked).pkg = s.pkg := rfl
@[simp] theorem looked_pkgWritten (s : State) : (s.looked).pkgWritten = s.pkgWritten := rfl
@[simp] theorem looked_run (s : State) : (s.looked).run = s.run := rfl
@[simp] theorem looked_requests (s : State) : (s.looked).requests = s.requests := rfl
@[simp] theorem looked_answers (s : State) : (s.looked).answers = s.answers := rfl
@[simp] theorem looked_calls (s : State) : (s.looked).calls = s.calls := rfl
@[simp] theorem looked_returns (s : State) : (s.looked).returns = s.returns.tail := rfl
@[simp] theorem looked_looks (s : State) : (s.looked).looks = s.looks + 1 := rfl
@[simp] theorem looked_trace (s : State) : (s.looked).trace = s.trace := rfl
@[simp] theorem looked_responses (s : State) : (s.looked).responses = s.responses := rfl

/-! ### answered -/

@[simp] theorem answered_cfg (s : State) : (s.answered).cfg = s.cfg := rfl
@[simp] theorem answered_addr (s : State) : (s.answered).addr = s.addr := rfl
@[simp] theorem answered_g (s : State) : (s.answered).g = s.g := rfl
@[simp] theorem answered_gWritten (s : State) : (s.answered).gWritten = s.gWritten := rfl
@[simp] theorem answered_it (s : State) : (s.answered).it = s.it := rfl
@[simp] theorem answered_itWritten (s : State) : (s.answered).itWritten = s.itWritten := rfl
@[simp] theorem answered_pkg (s : State) : (s.answered).pkg = s.pkg := rfl
@[simp] theorem answered_pkgWritten (s : State) : (s.answered).pkgWritten = s.pkgWritten := rfl
@[simp] theorem answered_run (s : State) : (s.answered).run = s.run := rfl
@[simp] theorem answered_requests (s : State) : (s.answered).requests = s.requests := rfl
@[simp] theorem answered_answers (s : State) : (s.answered).answers = s.answers.tail := rfl
@[simp] theorem answered_calls (s : State) : (s.answered).calls = s.calls + 1 := rfl
@[simp] theorem answered_returns (s : State) : (s.answered).returns = s.returns.tail := rfl
@[simp] theorem answered_looks (s : State) : (s.answered).looks = s.looks + 1 := rfl
@[simp] theorem answered_trace (s : State) : (s.answered).trace = s.trace := rfl
@[simp] theorem answered_responses (s : State) : (s.answered).responses = s.responses := rfl

/-! ### delay -/

@[simp] theorem delay_cfg (s : State) (d : Nat) : (s.delay d).cfg = s.cfg := rfl
@[simp] theorem delay_addr (s : State) (d : Nat) : (s.delay d).addr = s.addr := rfl
@[simp] theorem delay_g (s : State) (d : Nat) : (s.delay d).g = s.g := rfl
@[simp] theorem delay_gWritten (s : State) (d : Nat) : (s.delay d).gWritten = s.gWritten := rfl
@[simp] theorem delay_it (s : State) (d : Nat) : (s.delay d).it = s.it := rfl
@[simp] theorem delay_itWritten (s : State) (d : Nat) : (s.delay d).itWritten = s.itWritten := rfl
@[simp] theorem delay_pkg (s : State) (d : Nat) : (s.delay d).pkg = s.pkg := rfl
@[simp] theorem delay_pkgWritten (s : State) (d : Nat) : (s.delay d).pkgWritten = s.pkgWritten := rfl
@[simp] theorem delay_run (s : State) (d : Nat) : (s.delay d).run = s.run := rfl
@[simp] theorem delay_requests (s : State) (d : Nat) : (s.delay d).requests = s.requests := rfl
@[simp] theorem delay_answers (s : State) (d : Nat) : (s.delay d).answers = s.answers := rfl
@[simp] theorem delay_calls (s : State) (d : Nat) : (s.delay d).calls = s.calls := rfl
@[simp] theorem delay_returns (s : State) (d : Nat) : (s.delay d).returns = s.returns.tail := rfl
@[simp] theorem delay_looks (s : State) (d : Nat) : (s.delay d).looks = s.looks + 1 := rfl
@[simp] theorem delay_trace (s : State) (d : Nat) : (s.delay d).trace = s.trace ++ [.delay d] := rfl
@[simp] theorem delay_responses (s : State) (d : Nat) : (s.delay d).responses = s.responses := rfl

/-! ### diag -/

@[simp] theorem diag_cfg (s : State) (d : Diag) : (s.diag d).cfg = s.cfg := rfl
@[simp] theorem diag_addr (s : State) (d : Diag) : (s.diag d).addr = s.addr := rfl
@[simp] theorem diag_g (s : State) (d : Diag) : (s.diag d).g = s.g := rfl
@[simp] theorem diag_gWritten (s : State) (d : Diag) : (s.diag d).gWritten = s.gWritten := rfl
@[simp] theorem diag_it (s : State) (d : Diag) : (s.diag d).it = s.it := rfl
@[simp] theorem diag_itWritten (s : State) (d : Diag) : (s.diag d).itWritten = s.itWritten := rfl
@[simp] theorem diag_pkg (s : State) (d : Diag) : (s.diag d).pkg = s.pkg := rfl
@[simp] theorem diag_pkgWritten (s : State) (d : Diag) : (s.diag d).pkgWritten = s.pkgWritten := rfl
@[simp] theorem diag_run (s : State) (d : Diag) : (s.diag d).run = s.run := rfl
@[simp] theorem diag_requests (s : State) (d : Diag) : (s.diag d).requests = s.requests := rfl
@[simp] theorem diag_answers (s : State) (d : Diag) : (s.diag d).answers = s.answers := rfl
@[simp] theorem diag_calls (s : State) (d : Diag) : (s.diag d).calls = s.calls := rfl
@[simp] theorem diag_returns (s : State) (d : Diag) : (s.diag d).returns = s.returns := rfl
@[simp] theorem diag_looks (s : State) (d : Diag) : (s.diag d).looks = s.looks := rfl
@[simp] theorem diag_trace (s : State) (d : Diag) : (s.diag d).trace = s.trace ++ [.diag d] := rfl
@[simp] theorem diag_responses (s : State) (d : Diag) : (s.diag d).responses = s.responses := rfl

/-! ### writeG -/

@[simp] theorem writeG_cfg (s : State) (v : BitVec 1) : (s.writeG v).cfg = s.cfg := rfl
@[simp] theorem writeG_addr (s : State) (v : BitVec 1) : (s.writeG v).addr = s.addr := rfl
@[simp] theorem writeG_g (s : State) (v : BitVec 1) : (s.writeG v).g = v := rfl
@[simp] theorem writeG_gWritten (s : State) (v : BitVec 1) : (s.writeG v).gWritten = true := rfl
@[simp] theorem writeG_it (s : State) (v : BitVec 1) : (s.writeG v).it = s.it := rfl
@[simp] theorem writeG_itWritten (s : State) (v : BitVec 1) : (s.writeG v).itWritten = s.itWritten := rfl
@[simp] theorem writeG_pkg (s : State) (v : BitVec 1) : (s.writeG v).pkg = s.pkg := rfl
@[simp] theorem writeG_pkgWritten (s : State) (v : BitVec 1) : (s.writeG v).pkgWritten = s.pkgWritten := rfl
@[simp] theorem writeG_run (s : State) (v : BitVec 1) : (s.writeG v).run = s.run := rfl
@[simp] theorem writeG_requests (s : State) (v : BitVec 1) : (s.writeG v).requests = s.requests := rfl
@[simp] theorem writeG_answers (s : State) (v : BitVec 1) : (s.writeG v).answers = s.answers := rfl
@[simp] theorem writeG_calls (s : State) (v : BitVec 1) : (s.writeG v).calls = s.calls := rfl
@[simp] theorem writeG_returns (s : State) (v : BitVec 1) : (s.writeG v).returns = s.returns := rfl
@[simp] theorem writeG_looks (s : State) (v : BitVec 1) : (s.writeG v).looks = s.looks := rfl
@[simp] theorem writeG_trace (s : State) (v : BitVec 1) : (s.writeG v).trace = s.trace := rfl
@[simp] theorem writeG_responses (s : State) (v : BitVec 1) : (s.writeG v).responses = s.responses := rfl

/-! ### writeIT -/

@[simp] theorem writeIT_cfg (s : State) (v : BitVec 2) : (s.writeIT v).cfg = s.cfg := rfl
@[simp] theorem writeIT_addr (s : State) (v : BitVec 2) : (s.writeIT v).addr = s.addr := rfl
@[simp] theorem writeIT_g (s : State) (v : BitVec 2) : (s.writeIT v).g = s.g := rfl
@[simp] theorem writeIT_gWritten (s : State) (v : BitVec 2) : (s.writeIT v).gWritten = s.gWritten := rfl
@[simp] theorem writeIT_it (s : State) (v : BitVec 2) : (s.writeIT v).it = v := rfl
@[simp] theorem writeIT_itWritten (s : State) (v : BitVec 2) : (s.writeIT v).itWritten = true := rfl
@[simp] theorem writeIT_pkg (s : State) (v : BitVec 2) : (s.writeIT v).pkg = s.pkg := rfl
@[simp] theorem writeIT_pkgWritten (s : State) (v : BitVec 2) : (s.writeIT v).pkgWritten = s.pkgWritten := rfl
@[simp] theorem writeIT_run (s : State) (v : BitVec 2) : (s.writeIT v).run = s.run := rfl
@[simp] theorem writeIT_requests (s : State) (v : BitVec 2) : (s.writeIT v).requests = s.requests := rfl
@[simp] theorem writeIT_answers (s : State) (v : BitVec 2) : (s.writeIT v).answers = s.answers := rfl
@[simp] theorem writeIT_calls (s : State) (v : BitVec 2) : (s.writeIT v).calls = s.calls := rfl
@[simp] theorem writeIT_returns (s : State) (v : BitVec 2) : (s.writeIT v).returns = s.returns := rfl
@[simp] theorem writeIT_looks (s : State) (v : BitVec 2) : (s.writeIT v).looks = s.looks := rfl
@[simp] theorem writeIT_trace (s : State) (v : BitVec 2) : (s.writeIT v).trace = s.trace := rfl
@[simp] theorem writeIT_responses (s : State) (v : BitVec 2) : (s.writeIT v).responses = s.responses := rfl

/-! ### writePKG -/

@[simp] theorem writePKG_cfg (s : State) (v : BitVec 2) : (s.writePKG v).cfg = s.cfg := rfl
@[simp] theorem writePKG_addr (s : State) (v : BitVec 2) : (s.writePKG v).addr = s.addr := rfl
@[simp] theorem writePKG_g (s : State) (v : BitVec 2) : (s.writePKG v).g = s.g := rfl
@[simp] theorem writePKG_gWritten (s : State) (v : BitVec 2) : (s.writePKG v).gWritten = s.gWritten := rfl
@[simp] theorem writePKG_it (s : State) (v : BitVec 2) : (s.writePKG v).it = s.it := rfl
@[simp] theorem writePKG_itWritten (s : State) (v : BitVec 2) : (s.writePKG v).itWritten = s.itWritten := rfl
@[simp] theorem writePKG_pkg (s : State) (v : BitVec 2) : (s.writePKG v).pkg = v := rfl
@[simp] theorem writePKG_pkgWritten (s : State) (v : BitVec 2) : (s.writePKG v).pkgWritten = true := rfl
@[simp] theorem writePKG_run (s : State) (v : BitVec 2) : (s.writePKG v).run = s.run := rfl
@[simp] theorem writePKG_requests (s : State) (v : BitVec 2) : (s.writePKG v).requests = s.requests := rfl
@[simp] theorem writePKG_answers (s : State) (v : BitVec 2) : (s.writePKG v).answers = s.answers := rfl
@[simp] theorem writePKG_calls (s : State) (v : BitVec 2) : (s.writePKG v).calls = s.calls := rfl
@[simp] theorem writePKG_returns (s : State) (v : BitVec 2) : (s.writePKG v).returns = s.returns := rfl
@[simp] theorem writePKG_looks (s : State) (v : BitVec 2) : (s.writePKG v).looks = s.looks := rfl
@[simp] theorem writePKG_trace (s : State) (v : BitVec 2) : (s.writePKG v).trace = s.trace := rfl
@[simp] theorem writePKG_responses (s : State) (v : BitVec 2) : (s.writePKG v).responses = s.responses := rfl

/-! ### respond -/

@[simp] theorem respond_cfg (s : State) (st : Status) (d : BitVec 32) : (s.respond st d).cfg = s.cfg := rfl
@[simp] theorem respond_addr (s : State) (st : Status) (d : BitVec 32) : (s.respond st d).addr = s.addr := rfl
@[simp] theorem respond_g (s : State) (st : Status) (d : BitVec 32) : (s.respond st d).g = s.g := rfl
@[simp] theorem respond_gWritten (s : State) (st : Status) (d : BitVec 32) :
    (s.respond st d).gWritten = s.gWritten := rfl
@[simp] theorem respond_it (s : State) (st : Status) (d : BitVec 32) : (s.respond st d).it = s.it := rfl
@[simp] theorem respond_itWritten (s : State) (st : Status) (d : BitVec 32) :
    (s.respond st d).itWritten = s.itWritten := rfl
@[simp] theorem respond_pkg (s : State) (st : Status) (d : BitVec 32) : (s.respond st d).pkg = s.pkg := rfl
@[simp] theorem respond_pkgWritten (s : State) (st : Status) (d : BitVec 32) :
    (s.respond st d).pkgWritten = s.pkgWritten := rfl
@[simp] theorem respond_run (s : State) (st : Status) (d : BitVec 32) : (s.respond st d).run = none := rfl
@[simp] theorem respond_requests (s : State) (st : Status) (d : BitVec 32) :
    (s.respond st d).requests = s.requests := rfl
@[simp] theorem respond_answers (s : State) (st : Status) (d : BitVec 32) : (s.respond st d).answers = s.answers := rfl
@[simp] theorem respond_calls (s : State) (st : Status) (d : BitVec 32) : (s.respond st d).calls = s.calls := rfl
@[simp] theorem respond_returns (s : State) (st : Status) (d : BitVec 32) : (s.respond st d).returns = s.returns := rfl
@[simp] theorem respond_looks (s : State) (st : Status) (d : BitVec 32) : (s.respond st d).looks = s.looks := rfl
@[simp] theorem respond_trace (s : State) (st : Status) (d : BitVec 32) : (s.respond st d).trace = s.trace := rfl
@[simp] theorem respond_responses (s : State) (st : Status) (d : BitVec 32) :
    (s.respond st d).responses = s.responses ++ [⟨st, d⟩] := rfl

/-! ### frameDone -/

@[simp] theorem frameDone_cfg (s : State) : (s.frameDone).cfg = s.cfg := rfl
@[simp] theorem frameDone_addr (s : State) : (s.frameDone).addr = s.addr := rfl
@[simp] theorem frameDone_g (s : State) : (s.frameDone).g = s.g := rfl
@[simp] theorem frameDone_gWritten (s : State) : (s.frameDone).gWritten = s.gWritten := rfl
@[simp] theorem frameDone_it (s : State) : (s.frameDone).it = s.it := rfl
@[simp] theorem frameDone_itWritten (s : State) : (s.frameDone).itWritten = s.itWritten := rfl
@[simp] theorem frameDone_pkg (s : State) : (s.frameDone).pkg = s.pkg := rfl
@[simp] theorem frameDone_pkgWritten (s : State) : (s.frameDone).pkgWritten = s.pkgWritten := rfl
@[simp] theorem frameDone_run (s : State) : (s.frameDone).run = none := rfl
@[simp] theorem frameDone_requests (s : State) : (s.frameDone).requests = s.requests := rfl
@[simp] theorem frameDone_answers (s : State) : (s.frameDone).answers = s.answers := rfl
@[simp] theorem frameDone_calls (s : State) : (s.frameDone).calls = s.calls := rfl
@[simp] theorem frameDone_returns (s : State) : (s.frameDone).returns = s.returns := rfl
@[simp] theorem frameDone_looks (s : State) : (s.frameDone).looks = s.looks := rfl
@[simp] theorem frameDone_trace (s : State) : (s.frameDone).trace = s.trace := rfl
@[simp] theorem frameDone_responses (s : State) : (s.frameDone).responses = s.responses := rfl

/-! ### accept -/

@[simp] theorem accept_cfg (s : State) (i : Instr) : (s.accept i).cfg = s.cfg := rfl
@[simp] theorem accept_addr (s : State) (i : Instr) : (s.accept i).addr = s.addr := rfl
@[simp] theorem accept_g (s : State) (i : Instr) : (s.accept i).g = s.g := rfl
@[simp] theorem accept_gWritten (s : State) (i : Instr) : (s.accept i).gWritten = s.gWritten := rfl
@[simp] theorem accept_it (s : State) (i : Instr) : (s.accept i).it = s.it := rfl
@[simp] theorem accept_itWritten (s : State) (i : Instr) : (s.accept i).itWritten = s.itWritten := rfl
@[simp] theorem accept_pkg (s : State) (i : Instr) : (s.accept i).pkg = s.pkg := rfl
@[simp] theorem accept_pkgWritten (s : State) (i : Instr) : (s.accept i).pkgWritten = s.pkgWritten := rfl
@[simp] theorem accept_run (s : State) (i : Instr) : (s.accept i).run = some { op := i } := rfl
@[simp] theorem accept_requests (s : State) (i : Instr) : (s.accept i).requests = s.requests := rfl
@[simp] theorem accept_answers (s : State) (i : Instr) : (s.accept i).answers = s.answers := rfl
@[simp] theorem accept_calls (s : State) (i : Instr) : (s.accept i).calls = s.calls := rfl
@[simp] theorem accept_returns (s : State) (i : Instr) : (s.accept i).returns = s.returns := rfl
@[simp] theorem accept_looks (s : State) (i : Instr) : (s.accept i).looks = s.looks := rfl
@[simp] theorem accept_trace (s : State) (i : Instr) : (s.accept i).trace = s.trace := rfl
@[simp] theorem accept_responses (s : State) (i : Instr) : (s.accept i).responses = s.responses := rfl

/-! ### setLoc -/

@[simp] theorem setLoc_cfg (s : State) (l : Locals) : (s.setLoc l).cfg = s.cfg := rfl
@[simp] theorem setLoc_addr (s : State) (l : Locals) : (s.setLoc l).addr = s.addr := rfl
@[simp] theorem setLoc_g (s : State) (l : Locals) : (s.setLoc l).g = s.g := rfl
@[simp] theorem setLoc_gWritten (s : State) (l : Locals) : (s.setLoc l).gWritten = s.gWritten := rfl
@[simp] theorem setLoc_it (s : State) (l : Locals) : (s.setLoc l).it = s.it := rfl
@[simp] theorem setLoc_itWritten (s : State) (l : Locals) : (s.setLoc l).itWritten = s.itWritten := rfl
@[simp] theorem setLoc_pkg (s : State) (l : Locals) : (s.setLoc l).pkg = s.pkg := rfl
@[simp] theorem setLoc_pkgWritten (s : State) (l : Locals) : (s.setLoc l).pkgWritten = s.pkgWritten := rfl
@[simp] theorem setLoc_run (s : State) (l : Locals) : (s.setLoc l).run = s.run.map fun r => { r with loc := l } := rfl
@[simp] theorem setLoc_requests (s : State) (l : Locals) : (s.setLoc l).requests = s.requests := rfl
@[simp] theorem setLoc_answers (s : State) (l : Locals) : (s.setLoc l).answers = s.answers := rfl
@[simp] theorem setLoc_calls (s : State) (l : Locals) : (s.setLoc l).calls = s.calls := rfl
@[simp] theorem setLoc_returns (s : State) (l : Locals) : (s.setLoc l).returns = s.returns := rfl
@[simp] theorem setLoc_looks (s : State) (l : Locals) : (s.setLoc l).looks = s.looks := rfl
@[simp] theorem setLoc_trace (s : State) (l : Locals) : (s.setLoc l).trace = s.trace := rfl
@[simp] theorem setLoc_responses (s : State) (l : Locals) : (s.setLoc l).responses = s.responses := rfl

/-! ### advance -/

@[simp] theorem advance_cfg (s : State) : (s.advance).cfg = s.cfg := rfl
@[simp] theorem advance_addr (s : State) : (s.advance).addr = s.addr := rfl
@[simp] theorem advance_g (s : State) : (s.advance).g = s.g := rfl
@[simp] theorem advance_gWritten (s : State) : (s.advance).gWritten = s.gWritten := rfl
@[simp] theorem advance_it (s : State) : (s.advance).it = s.it := rfl
@[simp] theorem advance_itWritten (s : State) : (s.advance).itWritten = s.itWritten := rfl
@[simp] theorem advance_pkg (s : State) : (s.advance).pkg = s.pkg := rfl
@[simp] theorem advance_pkgWritten (s : State) : (s.advance).pkgWritten = s.pkgWritten := rfl
@[simp] theorem advance_run (s : State) :
    (s.advance).run = s.run.map fun r => { r with seq := r.seq + 1, waiting := false } := rfl
@[simp] theorem advance_requests (s : State) : (s.advance).requests = s.requests := rfl
@[simp] theorem advance_answers (s : State) : (s.advance).answers = s.answers := rfl
@[simp] theorem advance_calls (s : State) : (s.advance).calls = s.calls := rfl
@[simp] theorem advance_returns (s : State) : (s.advance).returns = s.returns := rfl
@[simp] theorem advance_looks (s : State) : (s.advance).looks = s.looks := rfl
@[simp] theorem advance_trace (s : State) : (s.advance).trace = s.trace := rfl
@[simp] theorem advance_responses (s : State) : (s.advance).responses = s.responses := rfl

/-! ### blocked -/

@[simp] theorem blocked_cfg (s : State) : (s.blocked).cfg = s.cfg := rfl
@[simp] theorem blocked_addr (s : State) : (s.blocked).addr = s.addr := rfl
@[simp] theorem blocked_g (s : State) : (s.blocked).g = s.g := rfl
@[simp] theorem blocked_gWritten (s : State) : (s.blocked).gWritten = s.gWritten := rfl
@[simp] theorem blocked_it (s : State) : (s.blocked).it = s.it := rfl
@[simp] theorem blocked_itWritten (s : State) : (s.blocked).itWritten = s.itWritten := rfl
@[simp] theorem blocked_pkg (s : State) : (s.blocked).pkg = s.pkg := rfl
@[simp] theorem blocked_pkgWritten (s : State) : (s.blocked).pkgWritten = s.pkgWritten := rfl
@[simp] theorem blocked_run (s : State) : (s.blocked).run = s.run.map fun r => { r with waiting := true } := rfl
@[simp] theorem blocked_requests (s : State) : (s.blocked).requests = s.requests := rfl
@[simp] theorem blocked_answers (s : State) : (s.blocked).answers = s.answers := rfl
@[simp] theorem blocked_calls (s : State) : (s.blocked).calls = s.calls := rfl
@[simp] theorem blocked_returns (s : State) : (s.blocked).returns = s.returns := rfl
@[simp] theorem blocked_looks (s : State) : (s.blocked).looks = s.looks := rfl
@[simp] theorem blocked_trace (s : State) : (s.blocked).trace = s.trace := rfl
@[simp] theorem blocked_responses (s : State) : (s.blocked).responses = s.responses := rfl

/-! ### afterBus -/

@[simp] theorem afterBus_cfg (s : State) (n : Nat) (es : List Event) : (s.afterBus n es).cfg = s.cfg := rfl
@[simp] theorem afterBus_addr (s : State) (n : Nat) (es : List Event) : (s.afterBus n es).addr = s.addr := rfl
@[simp] theorem afterBus_g (s : State) (n : Nat) (es : List Event) : (s.afterBus n es).g = s.g := rfl
@[simp] theorem afterBus_gWritten (s : State) (n : Nat) (es : List Event) :
    (s.afterBus n es).gWritten = s.gWritten := rfl
@[simp] theorem afterBus_it (s : State) (n : Nat) (es : List Event) : (s.afterBus n es).it = s.it := rfl
@[simp] theorem afterBus_itWritten (s : State) (n : Nat) (es : List Event) :
    (s.afterBus n es).itWritten = s.itWritten := rfl
@[simp] theorem afterBus_pkg (s : State) (n : Nat) (es : List Event) : (s.afterBus n es).pkg = s.pkg := rfl
@[simp] theorem afterBus_pkgWritten (s : State) (n : Nat) (es : List Event) :
    (s.afterBus n es).pkgWritten = s.pkgWritten := rfl
@[simp] theorem afterBus_run (s : State) (n : Nat) (es : List Event) : (s.afterBus n es).run = s.run := rfl
@[simp] theorem afterBus_requests (s : State) (n : Nat) (es : List Event) :
    (s.afterBus n es).requests = s.requests := rfl
@[simp] theorem afterBus_answers (s : State) (n : Nat) (es : List Event) :
    (s.afterBus n es).answers = s.answers.drop n := rfl
@[simp] theorem afterBus_calls (s : State) (n : Nat) (es : List Event) : (s.afterBus n es).calls = s.calls + n := rfl
@[simp] theorem afterBus_returns (s : State) (n : Nat) (es : List Event) :
    (s.afterBus n es).returns = s.returns.drop n := rfl
@[simp] theorem afterBus_looks (s : State) (n : Nat) (es : List Event) : (s.afterBus n es).looks = s.looks + n := rfl
@[simp] theorem afterBus_trace (s : State) (n : Nat) (es : List Event) : (s.afterBus n es).trace = s.trace ++ es := rfl
@[simp] theorem afterBus_responses (s : State) (n : Nat) (es : List Event) :
    (s.afterBus n es).responses = s.responses := rfl

/-! ### afterLooks -/

@[simp] theorem afterLooks_cfg (s : State) (n : Nat) : (s.afterLooks n).cfg = s.cfg := rfl
@[simp] theorem afterLooks_addr (s : State) (n : Nat) : (s.afterLooks n).addr = s.addr := rfl
@[simp] theorem afterLooks_g (s : State) (n : Nat) : (s.afterLooks n).g = s.g := rfl
@[simp] theorem afterLooks_gWritten (s : State) (n : Nat) : (s.afterLooks n).gWritten = s.gWritten := rfl
@[simp] theorem afterLooks_it (s : State) (n : Nat) : (s.afterLooks n).it = s.it := rfl
@[simp] theorem afterLooks_itWritten (s : State) (n : Nat) : (s.afterLooks n).itWritten = s.itWritten := rfl
@[simp] theorem afterLooks_pkg (s : State) (n : Nat) : (s.afterLooks n).pkg = s.pkg := rfl
@[simp] theorem afterLooks_pkgWritten (s : State) (n : Nat) : (s.afterLooks n).pkgWritten = s.pkgWritten := rfl
@[simp] theorem afterLooks_run (s : State) (n : Nat) : (s.afterLooks n).run = s.run := rfl
@[simp] theorem afterLooks_requests (s : State) (n : Nat) : (s.afterLooks n).requests = s.requests := rfl
@[simp] theorem afterLooks_answers (s : State) (n : Nat) : (s.afterLooks n).answers = s.answers := rfl
@[simp] theorem afterLooks_calls (s : State) (n : Nat) : (s.afterLooks n).calls = s.calls := rfl
@[simp] theorem afterLooks_returns (s : State) (n : Nat) : (s.afterLooks n).returns = s.returns.drop n := rfl
@[simp] theorem afterLooks_looks (s : State) (n : Nat) : (s.afterLooks n).looks = s.looks + n := rfl
@[simp] theorem afterLooks_trace (s : State) (n : Nat) : (s.afterLooks n).trace = s.trace := rfl
@[simp] theorem afterLooks_responses (s : State) (n : Nat) : (s.afterLooks n).responses = s.responses := rfl

end Sys2Proof.Machine.State
end

