-- ==== Sys2Proof/Laws/Ops.lean ====
section
/-! SUPPORT. One spec lemma per shared operation. A bus access changes a state as `State.afterBus` does and in no other
way; which answers it takes and which events it leaves is said by `answerAt`, `writeTrace` and `readTrace`. -/

namespace Sys2Proof.Machine

/-- Two states with the same fields are the same state. -/
theorem State.ext' {s t : State} (hc : s.cfg = t.cfg) (ha : s.addr = t.addr) (hg : s.g = t.g)
    (hgw : s.gWritten = t.gWritten) (hi : s.it = t.it) (hiw : s.itWritten = t.itWritten) (hp : s.pkg = t.pkg)
    (hpw : s.pkgWritten = t.pkgWritten) (hr : s.run = t.run) (hq : s.requests = t.requests)
    (hans : s.answers = t.answers) (hk : s.calls = t.calls) (hd : s.returns = t.returns) (hl : s.looks = t.looks)
    (ht : s.trace = t.trace) (hrs : s.responses = t.responses) : s = t := by
  cases s; cases t; simp_all

/-! ### The value of a read -/

@[simp] theorem orZero_map_byteOf (d : Option (List Byte)) : orZero (d.map fun bs => byteOf (some bs)) = byteOf d := by
  cases d <;> rfl

@[simp] theorem orZero_map_word16Of (d : Option (List Byte)) :
    orZero (d.map fun bs => word16Of (some bs)) = word16Of d := by
  cases d <;> rfl

namespace State

/-! ### The answers to come -/

theorem nextAnswer_eq_answerAt_zero (s : State) : s.nextAnswer = s.answerAt 0 := by
  unfold nextAnswer answerAt
  cases s.answers <;> simp

theorem answered_answerAt (s : State) (k : Nat) : s.answered.answerAt k = s.answerAt (k + 1) := by
  simp only [answerAt, answered]
  rw [List.getElem?_tail, Nat.add_right_comm, Nat.add_assoc]

theorem emit_answerAt (s : State) (e : Event) (k : Nat) : (s.emit e).answerAt k = s.answerAt k := rfl

theorem afterBus_answerAt (s : State) (n : Nat) (es : List Event) (k : Nat) :
    (s.afterBus n es).answerAt k = s.answerAt (n + k) := by
  simp [answerAt, Nat.add_assoc]

theorem afterBus_readData (s : State) (n : Nat) (es : List Event) (k j : Nat) :
    (s.afterBus n es).readData k j = s.readData (n + k) j := by
  simp [readData, afterBus_answerAt, Nat.add_assoc]

theorem afterBus_readCalls (s : State) (n : Nat) (es : List Event) (k : Nat) :
    (s.afterBus n es).readCalls k = s.readCalls (n + k) := by
  simp [readCalls, afterBus_answerAt]

theorem afterBus_readTrace (s : State) (n : Nat) (es : List Event) (k : Nat) (f : List Byte) (j : Nat) :
    (s.afterBus n es).readTrace k f j = s.readTrace (n + k) f j := by
  simp [readTrace, afterBus_answerAt, afterBus_readData]

theorem afterBus_afterBus (s : State) (n m : Nat) (es fs : List Event) :
    (s.afterBus n es).afterBus m fs = s.afterBus (n + m) (es ++ fs) := by
  apply State.ext' <;> simp [Nat.add_assoc]

theorem emit_eq_afterBus (s : State) (e : Event) : s.emit e = s.afterBus 0 [e] := by
  apply State.ext' <;> simp

theorem answered_emit_eq_afterBus (s : State) (e : Event) : s.answered.emit e = s.afterBus 1 [e] := by
  apply State.ext' <;> simp

theorem diag_eq_afterBus (s : State) (d : Diag) : s.diag d = s.afterBus 0 [.diag d] := s.emit_eq_afterBus _

/-- Everything a delay does: one look that finds it returned, and its event. -/
theorem delay_eq_afterBus (s : State) (d : Nat) : s.delay d = s.looked.afterBus 0 [.delay d] :=
  s.looked.emit_eq_afterBus _

/-- What a device register holds does not change the answers to come. -/
theorem writePKG_answerAt (s : State) (v : BitVec 2) (k : Nat) : (s.writePKG v).answerAt k = s.answerAt k := rfl

theorem writeG_answerAt (s : State) (v : BitVec 1) (k : Nat) : (s.writeG v).answerAt k = s.answerAt k := rfl

theorem writeIT_answerAt (s : State) (v : BitVec 2) (k : Nat) : (s.writeIT v).answerAt k = s.answerAt k := rfl

theorem writePKG_readData (s : State) (v : BitVec 2) (k n : Nat) : (s.writePKG v).readData k n = s.readData k n := rfl

theorem writePKG_readCalls (s : State) (v : BitVec 2) (k : Nat) : (s.writePKG v).readCalls k = s.readCalls k := rfl

theorem writePKG_readTrace (s : State) (v : BitVec 2) (k : Nat) (f : List Byte) (n : Nat) :
    (s.writePKG v).readTrace k f n = s.readTrace k f n := rfl

/-- A bus access and a write of a device register do not meet. -/
theorem writePKG_afterBus (s : State) (v : BitVec 2) (n : Nat) (es : List Event) :
    (s.writePKG v).afterBus n es = (s.afterBus n es).writePKG v := rfl

theorem writeG_afterBus (s : State) (v : BitVec 1) (n : Nat) (es : List Event) :
    (s.writeG v).afterBus n es = (s.afterBus n es).writeG v := rfl

theorem writeIT_afterBus (s : State) (v : BitVec 2) (n : Nat) (es : List Event) :
    (s.writeIT v).afterBus n es = (s.afterBus n es).writeIT v := rfl

/-! ### Collaborator calls -/

/-- Everything a bus write does. -/
theorem busWrite_eq (s : State) (f : List Byte) :
    s.busWrite f = ((s.answerAt 0).ok, s.afterBus 1 [.busWrite s.addr f (s.answerAt 0).ok]) := by
  simp only [busWrite, nextAnswer_eq_answerAt_zero, answered_emit_eq_afterBus]

/-- Everything a bus read does. -/
theorem busRead_eq (s : State) (n : Nat) :
    s.busRead n = (bytesRead (s.answerAt 0) n, s.afterBus 1 [.busRead s.addr n (bytesRead (s.answerAt 0) n)]) := by
  simp only [busRead, nextAnswer_eq_answerAt_zero, answered_emit_eq_afterBus]

/-! ### Register access -/

/-- Everything `MemWrite` does (R54). -/
theorem memWrite_eq (s : State) (reg : RegAddr) (v : Byte) :
    s.memWrite reg v = ((s.answerAt 0).ok,
      s.afterBus 1 (writeTrace s.addr (writeFrame s.cfg reg v) (s.answerAt 0).ok)) := by
  simp only [memWrite, busWrite_eq, diag_eq_afterBus, afterBus_afterBus, writeTrace]
  cases (s.answerAt 0).ok <;> rfl

/-- Everything `MemRead(reg, 1)` does (R55). -/
theorem memRead8_eq (s : State) (reg : RegAddr) :
    s.memRead8 reg = ((s.readData 0 1).map fun bs => byteOf (some bs),
      s.afterBus (s.readCalls 0) (s.readTrace 0 (readFrame8 s.cfg reg) 1)) := by
  simp only [memRead8, busWrite_eq, busRead_eq, diag_eq_afterBus, afterBus_afterBus, afterBus_answerAt, bytesRead,
    readData, readCalls, readTrace, afterBus_addr, Nat.add_zero, Nat.zero_add]
  cases (s.answerAt 0).ok <;> cases (s.answerAt 1).ok <;> rfl

/-- Everything `MemRead(reg, 2)` does (R56). -/
theorem memRead16_eq (s : State) (reg : RegAddr) :
    s.memRead16 reg = ((s.readData 0 2).map fun bs => word16Of (some bs),
      s.afterBus (s.readCalls 0) (s.readTrace 0 (readFrame16 s.cfg reg) 2)) := by
  simp only [memRead16, busWrite_eq, busRead_eq, diag_eq_afterBus, afterBus_afterBus, afterBus_answerAt, bytesRead,
    readData, readCalls, readTrace, afterBus_addr, Nat.add_zero, Nat.zero_add]
  cases (s.answerAt 0).ok <;> cases (s.answerAt 1).ok <;> rfl

/-! No register access changes the parameters. -/

@[simp] theorem memWrite_cfg (s : State) (reg : RegAddr) (v : Byte) : (s.memWrite reg v).2.cfg = s.cfg := by
  rw [memWrite_eq, afterBus_cfg]

@[simp] theorem memRead8_cfg (s : State) (reg : RegAddr) : (s.memRead8 reg).2.cfg = s.cfg := by
  rw [memRead8_eq, afterBus_cfg]

@[simp] theorem memRead16_cfg (s : State) (reg : RegAddr) : (s.memRead16 reg).2.cfg = s.cfg := by
  rw [memRead16_eq, afterBus_cfg]

/-! ### The power bracket -/

/-- Everything the power-up write does (R135). -/
theorem powerUp_eq (s : State) :
    s.powerUp = ((s.answerAt 0).ok,
      s.afterBus 1 (writeTrace s.addr (writeFrame s.cfg s.cfg.regControl s.cfg.ctrlOn) (s.answerAt 0).ok)) :=
  s.memWrite_eq _ _

/-- Everything the power-down write does (R135). -/
theorem powerDown_eq (s : State) :
    s.powerDown = ((s.answerAt 0).ok,
      s.afterBus 1 (writeTrace s.addr (writeFrame s.cfg s.cfg.regControl s.cfg.ctrlOff) (s.answerAt 0).ok)) :=
  s.memWrite_eq _ _

/-- Everything the bracketed TIMING write does (R135): three writes. -/
theorem bracketedTiming_eq (s : State) (g : BitVec 1) (it : BitVec 2) :
    s.bracketedTiming g it = s.afterBus 3
      (writeTrace s.addr (writeFrame s.cfg s.cfg.regControl s.cfg.ctrlOn) (s.answerAt 0).ok
        ++ writeTrace s.addr (writeFrame s.cfg s.cfg.regTiming (timing g it)) (s.answerAt 1).ok
        ++ writeTrace s.addr (writeFrame s.cfg s.cfg.regControl s.cfg.ctrlOff) (s.answerAt 2).ok) := by
  simp only [bracketedTiming, powerUp_eq, powerDown_eq, memWrite_eq, afterBus_afterBus, afterBus_answerAt, afterBus_addr,
    afterBus_cfg, Nat.add_zero]

/-- The power check looks at bit 0 only (R132, R194). -/
theorem powerBit_eq_zero (c : Byte) : powerBit c = 0#1 ↔ c.getLsbD 0 = false := by
  constructor
  · intro h
    have := congrArg (·.getLsbD 0) h
    simpa [powerBit, BitVec.getLsbD_extractLsb'] using this
  · intro h
    apply BitVec.eq_of_getLsbD_eq
    intro i hi
    obtain rfl : i = 0 := by omega
    simpa [powerBit] using h

/-- Everything the power check does (R132). -/
theorem checkPower_eq (s : State) (c : Byte) :
    s.checkPower c = s.afterBus 0 (if c.getLsbD 0 then [] else [.diag .initPower]) := by
  simp only [checkPower, powerBit_eq_zero]
  cases c.getLsbD 0
  · simp [diag_eq_afterBus]
  · apply State.ext' <;> simp

@[simp] theorem checkPower_cfg (s : State) (c : Byte) : (s.checkPower c).cfg = s.cfg := by
  rw [checkPower_eq, afterBus_cfg]

/-- Everything the package check does (R186, R195). -/
theorem checkPackage_eq (s : State) (v : BitVec 2) :
    s.checkPackage v = s.afterBus 0 (if packageOf s.cfg v = .unknown then [.diag .pkgUnknown] else []) := by
  unfold checkPackage
  split
  · rw [diag_eq_afterBus]
  · apply State.ext' <;> simp

/-! ### The device registers -/

/-! A register reads as the value it holds (R22 to R24). -/

@[simp] theorem readG_eq (s : State) : s.readG = s.g := rfl

@[simp] theorem readIT_eq (s : State) : s.readIT = s.it := rfl

@[simp] theorem readPKG_eq (s : State) : s.readPKG = s.pkg := rfl

/-! ### The looks at a collaborator -/

theorem returnsNow_eq_returnsAt_zero (s : State) : s.returnsNow = s.returnsAt 0 := by
  unfold returnsNow returnsAt
  cases s.returns <;> simp

theorem looked_returnsAt (s : State) (k : Nat) : s.looked.returnsAt k = s.returnsAt (k + 1) := by
  simp only [returnsAt, looked]
  rw [List.getElem?_tail, Nat.add_right_comm, Nat.add_assoc]

theorem afterBus_returnsAt (s : State) (n : Nat) (es : List Event) (k : Nat) :
    (s.afterBus n es).returnsAt k = s.returnsAt (n + k) := by
  simp [returnsAt, Nat.add_assoc]

theorem afterLooks_returnsAt (s : State) (n k : Nat) : (s.afterLooks n).returnsAt k = s.returnsAt (n + k) := by
  simp [returnsAt, Nat.add_assoc]

/-- Fewer calls are answered where more are. -/
theorem Returns.mono {s : State} {m n : Nat} (h : s.Returns n) (hmn : m ≤ n) : s.Returns m :=
  fun k hk => h k (Nat.lt_of_lt_of_le hk hmn)

/-- Where a call is answered, the next look finds it so. -/
theorem Returns.now {s : State} {n : Nat} (h : s.Returns (n + 1)) : s.returnsNow = true := by
  rw [returnsNow_eq_returnsAt_zero]
  exact h 0 (Nat.succ_pos n)

/-- The calls left over after `n` answered ones. -/
theorem Returns.afterBus {s : State} {n m : Nat} (h : s.Returns (n + m)) (es : List Event) :
    (s.afterBus n es).Returns m := fun k hk => by
  rw [afterBus_returnsAt]
  exact h (n + k) (by omega)

theorem Returns.looked {s : State} {n : Nat} (h : s.Returns (n + 1)) : s.looked.Returns n := fun k hk => by
  rw [looked_returnsAt]
  exact h (k + 1) (by omega)

/-! The calls left over after an operation's access, at its most calls: what the next access is answered by. -/

theorem readCalls_le_two (s : State) (k : Nat) : s.readCalls k ≤ 2 := by
  unfold readCalls
  split <;> omega

theorem Returns.read {s : State} {n : Nat} (h : s.Returns (n + 2)) : s.Returns (s.readCalls 0) :=
  h.mono (Nat.le_trans (s.readCalls_le_two 0) (Nat.le_add_left 2 n))

theorem Returns.memWrite {s : State} {n : Nat} (h : s.Returns (n + 1)) (reg : RegAddr) (v : Byte) :
    (s.memWrite reg v).2.Returns n := by
  rw [memWrite_eq]
  exact Returns.afterBus (Nat.add_comm 1 n ▸ h) _

theorem Returns.memRead8 {s : State} {n : Nat} (h : s.Returns (n + 2)) (reg : RegAddr) :
    (s.memRead8 reg).2.Returns n := by
  rw [memRead8_eq]
  exact Returns.afterBus (h.mono (by have := s.readCalls_le_two 0; omega)) _

theorem Returns.memRead16 {s : State} {n : Nat} (h : s.Returns (n + 2)) (reg : RegAddr) :
    (s.memRead16 reg).2.Returns n := by
  rw [memRead16_eq]
  exact Returns.afterBus (h.mono (by have := s.readCalls_le_two 0; omega)) _

theorem Returns.delay {s : State} {n : Nat} (h : s.Returns (n + 1)) (d : Nat) : (s.delay d).Returns n := h.looked

theorem Returns.writeG {s : State} {n : Nat} (h : s.Returns n) (v : BitVec 1) : (s.writeG v).Returns n := h

theorem Returns.writeIT {s : State} {n : Nat} (h : s.Returns n) (v : BitVec 2) : (s.writeIT v).Returns n := h

theorem Returns.writePKG {s : State} {n : Nat} (h : s.Returns n) (v : BitVec 2) : (s.writePKG v).Returns n := h

theorem Returns.checkPower {s : State} {n : Nat} (h : s.Returns n) (c : Byte) : (s.checkPower c).Returns n := by
  unfold State.checkPower
  split <;> exact h

theorem looked_answerAt (s : State) (k : Nat) : s.looked.answerAt k = s.answerAt k := rfl

theorem looked_readData (s : State) (k n : Nat) : s.looked.readData k n = s.readData k n := rfl

theorem looked_readCalls (s : State) (k : Nat) : s.looked.readCalls k = s.readCalls k := rfl

theorem looked_readTrace (s : State) (k : Nat) (f : List Byte) (n : Nat) :
    s.looked.readTrace k f n = s.readTrace k f n := rfl

/-- A look and bus calls may change places. -/
theorem afterBus_looked (s : State) (n : Nat) (es : List Event) :
    (s.afterBus n es).looked = s.looked.afterBus n es := by
  apply State.ext' <;> simp [Nat.add_right_comm]

/-- A look that finds nothing, and the looks after it. -/
theorem looked_afterLooks (s : State) (n : Nat) : s.looked.afterLooks n = s.afterLooks (n + 1) := by
  apply State.ext' <;> simp [Nat.add_comm, Nat.add_left_comm]

/-- A response after bus calls is the end of a request. -/
theorem afterBus_respond (s : State) (n : Nat) (es : List Event) (st : Status) (d : BitVec 32) :
    (s.afterBus n es).respond st d = s.afterRequest n es st d := rfl

/-- Everything RDCHAN does when its calls are answered (R150). -/
theorem performRdchan_eq (s : State) :
    performRdchan s = s.looked.afterRequest (1 + s.readCalls 1 + s.readCalls (1 + s.readCalls 1) + 1)
      (writeTrace s.addr (writeFrame s.cfg s.cfg.regControl s.cfg.ctrlOn) (s.answerAt 0).ok
        ++ [.delay (waitOf s.cfg s.it)]
        ++ s.readTrace 1 (readFrame16 s.cfg s.cfg.regCh0Low) 2
        ++ s.readTrace (1 + s.readCalls 1) (readFrame16 s.cfg s.cfg.regCh1Low) 2
        ++ writeTrace s.addr (writeFrame s.cfg s.cfg.regControl s.cfg.ctrlOff)
          (s.answerAt (1 + s.readCalls 1 + s.readCalls (1 + s.readCalls 1))).ok)
      .ok (channelData (word16Of (s.readData 1 2)) (word16Of (s.readData (1 + s.readCalls 1) 2))) := by
  simp only [performRdchan, powerUp_eq, delay_eq_afterBus, afterBus_looked, memRead16_eq, powerDown_eq,
    afterBus_afterBus, afterBus_answerAt, afterBus_addr, afterBus_cfg, afterBus_readData, afterBus_readCalls,
    afterBus_readTrace, looked_answerAt, looked_readData, looked_readCalls, looked_readTrace, looked_addr, looked_cfg,
    Nat.add_zero, afterBus_respond, orZero_map_word16Of, readIT_eq]

end State

/-! ### The three-way choices -/

/-- The wait as the rule writes it (R151). -/
theorem waitOf_eq (c : Cfg) (it : BitVec 2) :
    waitOf c it = if it = c.itFast then c.waitFast else if it = c.itMedium then c.waitMedium else c.waitDefault := by
  unfold waitOf modeOf
  by_cases hf : it = c.itFast
  · rw [if_pos hf, if_pos hf]
  · rw [if_neg hf, if_neg hf]
    by_cases hm : it = c.itMedium
    · rw [if_pos hm, if_pos hm]
    · rw [if_neg hm, if_neg hm]

/-- The channel scale as the rule writes it (R162). -/
theorem chscaleOf_eq (c : Cfg) (it : BitVec 2) :
    chscaleOf c it
      = if it = c.itFast then c.chscaleFast else if it = c.itMedium then c.chscaleMedium else 1 <<< c.chScale := by
  unfold chscaleOf modeOf
  by_cases hf : it = c.itFast
  · rw [if_pos hf, if_pos hf]
  · rw [if_neg hf, if_neg hf]
    by_cases hm : it = c.itMedium
    · rw [if_pos hm, if_pos hm]
    · rw [if_neg hm, if_neg hm]

/-- A package is unknown exactly when its code is neither of the two (R24). -/
theorem packageOf_eq_unknown (c : Cfg) (v : BitVec 2) : packageOf c v = .unknown ↔ v ≠ c.pkgCs ∧ v ≠ c.pkgTfncl := by
  unfold packageOf
  split
  · simp_all
  · split <;> simp_all

/-- A failed or a good read, as its value stands in a response status. -/
@[simp] theorem isSome_map_value {α β : Type} (d : Option α) (f : α → β) : (d.map f).isSome = d.isSome := by
  cases d <;> rfl

/-! ### Sequencing of outcomes

These are proved by `(rfl)` so that simp rewrites with them and does not ask the kernel to unfold the lines behind
them. -/

@[simp] theorem andThen_next (s : State) (k : State → Host.Outcome State Fault Refusal) : andThen (.next s) k = k s :=
  (rfl)

@[simp] theorem andThen_fault (f : Fault) (k : State → Host.Outcome State Fault Refusal) :
    andThen (.fault f) k = .fault f := (rfl)

@[simp] theorem andThen_refused (r : Refusal) (k : State → Host.Outcome State Fault Refusal) :
    andThen (.refused r) k = .refused r := (rfl)

/-- What went on to a next state had a next state. -/
theorem andThen_eq_next {o : Host.Outcome State Fault Refusal} {k : State → Host.Outcome State Fault Refusal}
    {t : State}
    (h : andThen o k = .next t) : ∃ s, o = .next s ∧ k s = .next t := by
  cases o with
  | next s => exact ⟨s, rfl, h⟩
  | fault f => simp [andThen] at h
  | refused r => simp [andThen] at h

theorem andThen_assoc (o : Host.Outcome State Fault Refusal) (k l : State → Host.Outcome State Fault Refusal) :
    andThen (andThen o k) l = andThen o fun s => andThen (k s) l := by
  cases o <;> rfl

end Sys2Proof.Machine
end

