-- ==== Sys2Proof/Laws/PerInstr.lean ====
section
/-! SUPPORT. The opcode map, per constructor: the encoding of each operation carries the opcode of R82, and a bus frame,
which is no request word, carries none. -/

namespace Sys2Proof

/-- The opcode of a word: bits 35:32 of a request word (R81). -/
def PortWord.opcode? : PortWord → Option (BitVec 4)
  | .req w => some (opField w)
  | .frame1 _ => none
  | .frame2 _ => none

/-- The opcode map (R82). -/
def Instr.opcode? : Instr → Option (BitVec 4)
  | .wrreg _ _ => some 0x1
  | .rdreg _ => some 0x2
  | .rdreg16 _ => some 0x3
  | .enable => some 0x4
  | .disable => some 0x5
  | .init => some 0x6
  | .setit _ => some 0x7
  | .setgain _ => some 0x8
  | .rdchan => some 0x9
  | .lux _ _ => some 0xA
  | .frameWrite _ _ => none
  | .frameRead8 _ => none
  | .frameRead16 _ => none

end Sys2Proof

namespace Sys2Proof.Laws.OpcodeMap

/-- For every parameter record, the encoding of `i` carries the opcode of `i`. -/
def Statement (i : Instr) : Prop := ∀ c : Cfg, (encode c i).opcode? = i.opcode?

theorem wrreg (reg : RegAddr) (value : Byte) : Statement (.wrreg reg value) := fun _ =>
  congrArg some (opField_append _ _)

theorem rdreg (reg : RegAddr) : Statement (.rdreg reg) := fun _ => congrArg some (opField_append _ _)

theorem rdreg16 (reg : RegAddr) : Statement (.rdreg16 reg) := fun _ => congrArg some (opField_append _ _)

theorem enable : Statement .enable := fun _ => congrArg some (opField_append _ _)

theorem disable : Statement .disable := fun _ => congrArg some (opField_append _ _)

theorem init : Statement .init := fun _ => congrArg some (opField_append _ _)

theorem setit (it : BitVec 2) : Statement (.setit it) := fun _ => congrArg some (opField_append _ _)

theorem setgain (g : BitVec 1) : Statement (.setgain g) := fun _ => congrArg some (opField_append _ _)

theorem rdchan : Statement .rdchan := fun _ => congrArg some (opField_append _ _)

theorem lux (raw0 raw1 : Word16) : Statement (.lux raw0 raw1) := fun _ => congrArg some (opField_append _ _)

theorem frameWrite (reg : RegAddr) (value : Byte) : Statement (.frameWrite reg value) := fun _ => rfl

theorem frameRead8 (reg : RegAddr) : Statement (.frameRead8 reg) := fun _ => rfl

theorem frameRead16 (reg : RegAddr) : Statement (.frameRead16 reg) := fun _ => rfl

end Sys2Proof.Laws.OpcodeMap
end

