-- ==== Sys2Proof/Laws/Sequencer.lean ====
section
/-! SUPPORT. What the lines do, on a state that stands inside an operation. `State.midway s op k l` is `s` with the
operation `op` in flight at line `k` with the local names `l`, and `State.waitingAt s op k l` the same blocked inside the
call of that line; everything but `run` is that of `s`. Each inlined register access whose calls are answered leads from
midway to midway; one whose call is not answered leads to waitingAt, and lines end there. -/

namespace Sys2Proof.Machine

/-- `s` with `op` in flight at line `k` with the local names `l`. -/
def State.midway (s : State) (op : Instr) (k : Nat) (l : Locals) : State :=
  { s with run := some { op := op, seq := k, loc := l } }

/-- `s` with `op` in flight, blocked inside the call of line `k`, with the local names `l`. -/
def State.waitingAt (s : State) (op : Instr) (k : Nat) (l : Locals) : State :=
  { s with run := some { op := op, seq := k, waiting := true, loc := l } }

namespace State

variable (s : State) (op : Instr) (k : Nat) (l : Locals)

theorem accept_eq_midway (i : Instr) : s.accept i = s.midway i 0 {} := (rfl)

theorem midway_run : (s.midway op k l).run = some { op := op, seq := k, loc := l } := (rfl)

theorem midway_loc : (s.midway op k l).loc = l := (rfl)

theorem midway_setLoc (l' : Locals) : (s.midway op k l).setLoc l' = s.midway op k l' := (rfl)

theorem midway_advance : (s.midway op k l).advance = s.midway op (k + 1) l := (rfl)

theorem midway_blocked : (s.midway op k l).blocked = s.waitingAt op k l := (rfl)

theorem waitingAt_blocked : (s.waitingAt op k l).blocked = s.waitingAt op k l := (rfl)

theorem waitingAt_loc : (s.waitingAt op k l).loc = l := (rfl)

theorem waitingAt_looked : (s.waitingAt op k l).looked = s.looked.waitingAt op k l := (rfl)

theorem waitingAt_returnsNow : (s.waitingAt op k l).returnsNow = s.returnsNow := (rfl)

theorem midway_returnsNow : (s.midway op k l).returnsNow = s.returnsNow := (rfl)

theorem midway_complete (x : Call) : (s.midway op k l).complete x = (s.complete x).midway op k l := by
  cases x <;> rfl

theorem waitingAt_complete (x : Call) : (s.waitingAt op k l).complete x = (s.complete x).waitingAt op k l := by
  cases x <;> rfl

/-- An answered call leads to the next line, from before the call and from inside it alike. -/
theorem midway_endCall (x : Call) (ret : Answer → Locals → Locals) :
    (s.midway op k l).endCall x ret = (s.complete x).midway op (k + 1) (ret (s.answerAt 0) l) := by
  rw [← nextAnswer_eq_answerAt_zero, endCall, midway_complete]; rfl

theorem waitingAt_endCall (x : Call) (ret : Answer → Locals → Locals) :
    (s.waitingAt op k l).endCall x ret = (s.complete x).midway op (k + 1) (ret (s.answerAt 0) l) := by
  rw [← nextAnswer_eq_answerAt_zero, endCall, waitingAt_complete]; rfl

theorem complete_busWrite (f : List Byte) :
    s.complete (.busWrite f) = s.afterBus 1 [.busWrite s.addr f (s.answerAt 0).ok] := by
  rw [complete, busWrite_eq]

theorem complete_busRead (n : Nat) :
    s.complete (.busRead n) = s.afterBus 1 [.busRead s.addr n (bytesRead (s.answerAt 0) n)] := by
  rw [complete, busRead_eq]

theorem complete_delay (d : Nat) : s.complete (.delay d) = s.delay d := (rfl)

theorem midway_cfg : (s.midway op k l).cfg = s.cfg := (rfl)

theorem midway_g : (s.midway op k l).g = s.g := (rfl)

theorem midway_it : (s.midway op k l).it = s.it := (rfl)

theorem midway_pkg : (s.midway op k l).pkg = s.pkg := (rfl)

theorem midway_addr : (s.midway op k l).addr = s.addr := (rfl)

theorem midway_responses : (s.midway op k l).responses = s.responses := (rfl)

theorem midway_answerAt (n : Nat) : (s.midway op k l).answerAt n = s.answerAt n := (rfl)

theorem midway_afterBus (n : Nat) (es : List Event) :
    (s.midway op k l).afterBus n es = (s.afterBus n es).midway op k l := (rfl)

theorem midway_diag (d : Diag) : (s.midway op k l).diag d = (s.diag d).midway op k l := (rfl)

theorem midway_delay (d : Nat) : (s.midway op k l).delay d = (s.delay d).midway op k l := (rfl)

theorem midway_writeG (v : BitVec 1) : (s.midway op k l).writeG v = (s.writeG v).midway op k l := (rfl)

theorem midway_writeIT (v : BitVec 2) : (s.midway op k l).writeIT v = (s.writeIT v).midway op k l := (rfl)

theorem midway_writePKG (v : BitVec 2) : (s.midway op k l).writePKG v = (s.writePKG v).midway op k l := (rfl)

theorem midway_readG : (s.midway op k l).readG = s.g := (rfl)

theorem midway_readIT : (s.midway op k l).readIT = s.it := (rfl)

theorem midway_readPKG : (s.midway op k l).readPKG = s.pkg := (rfl)

theorem midway_looked : (s.midway op k l).looked = s.looked.midway op k l := (rfl)

theorem midway_respond (st : Status) (d : BitVec 32) : (s.midway op k l).respond st d = s.respond st d := (rfl)

theorem midway_frameDone : (s.midway op k l).frameDone = s.frameDone := (rfl)

theorem midway_checkPower (c : Byte) : (s.midway op k l).checkPower c = (s.checkPower c).midway op k l := by
  unfold checkPower; split <;> rfl

theorem midway_checkPackage (v : BitVec 2) :
    (s.midway op k l).checkPackage v = (s.checkPackage v).midway op k l := by
  unfold checkPackage; rw [midway_cfg]; split <;> rfl

theorem checkPackage_cfg (v : BitVec 2) : (s.checkPackage v).cfg = s.cfg := by
  unfold checkPackage; split <;> rfl

/-- After `respond` there is no `seq` to advance. -/
theorem respond_advance (st : Status) (d : BitVec 32) : (s.respond st d).advance = s.respond st d := (rfl)

theorem frameDone_advance : s.frameDone.advance = s.frameDone := (rfl)

end State

/-! ### Running lines -/

/-- Everything the machine does at a line that calls: around it, on to the next line, or into the wait. -/
theorem runLines_call (c : State → Option Call) (ret : Answer → Locals → Locals) (ls : List Line) (s : State) :
    runLines (.call c ret :: ls) s
      = match c s with
        | none => runLines ls s.advance
        | some x => if s.returnsNow then runLines ls (s.endCall x ret) else s.blocked.looked := (rfl)

theorem runLines_act (f : State → State) (ls : List Line) (s : State) :
    runLines (.act f :: ls) s = runLines ls (f s).advance := (rfl)

theorem runLines_nil (s : State) : runLines [] s = s := (rfl)

/-- The induction over lines, once: what every act, every branch around a call, every answered call and every wait keeps
holds of whatever the lines lead to. -/
theorem runLines_keeps (P : State → Prop) (ls : List Line)
    (hact : ∀ f, Line.act f ∈ ls → ∀ s, P s → P (f s).advance)
    (hskip : ∀ s, P s → P s.advance)
    (hcall : ∀ c ret, Line.call c ret ∈ ls → ∀ s x, c s = some x → s.returnsNow = true → P s → P (s.endCall x ret))
    (hwait : ∀ s, P s → P s.blocked.looked) (s : State) (h : P s) : P (runLines ls s) := by
  induction ls generalizing s with
  | nil => exact h
  | cons l ls ih =>
    have ih := ih (fun f hf => hact f (.tail _ hf)) (fun c ret hc => hcall c ret (.tail _ hc))
    cases l with
    | act f => exact ih _ (hact f (.head _) s h)
    | call c ret =>
      rw [runLines_call]
      split
      · exact ih _ (hskip s h)
      · rename_i x hx
        split
        · exact ih _ (hcall c ret (.head _) s x hx ‹_› h)
        · exact hwait s h

section
variable (s : State) (op : Instr) (k : Nat) (l : Locals) (ls : List Line)

theorem runLines_lineSet (f : State → Locals) :
    runLines (lineSet f :: ls) (s.midway op k l) = runLines ls (s.midway op (k + 1) (f (s.midway op k l))) := (rfl)

theorem runLines_lineRespond (st : State → Status) (d : State → BitVec 32) :
    runLines [lineRespond st d] (s.midway op k l) = s.respond (st (s.midway op k l)) (d (s.midway op k l)) := (rfl)

theorem runLines_lineFrameDone : runLines [lineFrameDone] (s.midway op k l) = s.frameDone := (rfl)

/-- An answered bus write, midway. -/
theorem runLines_lineBusWrite (frame : State → List Byte) (h : s.returnsNow = true) :
    runLines (lineBusWrite frame :: ls) (s.midway op k l)
      = runLines ls ((s.afterBus 1 [.busWrite s.addr (frame (s.midway op k l)) (s.answerAt 0).ok]).midway op (k + 1)
          { l with ok := (s.answerAt 0).ok }) := by
  simp only [lineBusWrite, runLines_call, State.midway_returnsNow, h, if_true, State.midway_endCall,
    State.complete_busWrite]

/-- A bus write that is not answered blocks. -/
theorem runLines_lineBusWrite_blocks (frame : State → List Byte) (h : s.returnsNow = false) :
    runLines (lineBusWrite frame :: ls) (s.midway op k l) = s.looked.waitingAt op k l := by
  simp only [lineBusWrite, runLines_call, State.midway_returnsNow, h, Bool.false_eq_true, if_false,
    State.midway_blocked, State.waitingAt_looked]

/-- A delay that has returned. -/
theorem runLines_lineDelay (d : State → Nat) (h : s.returnsNow = true) :
    runLines (lineDelay d :: ls) (s.midway op k l)
      = runLines ls ((s.delay (d (s.midway op k l))).midway op (k + 1) l) := by
  simp only [lineDelay, runLines_call, State.midway_returnsNow, h, if_true, State.midway_endCall, State.complete_delay]

/-- A delay that has not returned blocks. -/
theorem runLines_lineDelay_blocks (d : State → Nat) (h : s.returnsNow = false) :
    runLines (lineDelay d :: ls) (s.midway op k l) = s.looked.waitingAt op k l := by
  simp only [lineDelay, runLines_call, State.midway_returnsNow, h, Bool.false_eq_true, if_false,
    State.midway_blocked, State.waitingAt_looked]

/-! ### The inlined register accesses, midway -/

/-- The inlined `MemWrite`, answered, is `MemWrite`. -/
theorem runLines_memWriteLines (reg : Cfg → RegAddr) (v : State → Byte) (h : s.Returns 1) :
    runLines (memWriteLines reg v ++ ls) (s.midway op k l)
      = runLines ls ((s.memWrite (reg s.cfg) (v (s.midway op k l))).2.midway op (k + 2)
          { l with ok := (s.memWrite (reg s.cfg) (v (s.midway op k l))).1 }) := by
  simp only [memWriteLines, List.cons_append, List.nil_append, runLines_lineBusWrite _ _ _ _ _ _ h.now, lineWriteFail,
    runLines_act, State.memWrite, State.busWrite_eq, State.midway_loc, State.midway_cfg]
  cases (s.answerAt 0).ok <;>
    simp only [State.midway_diag, State.midway_advance, Bool.false_eq_true, if_true, if_false]

/-- The inlined `MemRead(reg, 1)`, answered, is `MemRead(reg, 1)`. -/
theorem runLines_memRead8Lines (reg : Cfg → RegAddr) (h : s.Returns (s.readCalls 0)) :
    runLines (memRead8Lines reg ++ ls) (s.midway op k l)
      = runLines ls ((s.memRead8 (reg s.cfg)).2.midway op (k + 4)
          { l with ok := (s.answerAt 0).ok, byte := (s.memRead8 (reg s.cfg)).1 }) := by
  have h0 : s.returnsNow = true := (h.mono (by unfold State.readCalls; split <;> omega) : s.Returns 1).now
  simp only [memRead8Lines, List.cons_append, List.nil_append, runLines_lineBusWrite _ _ _ _ _ _ h0, lineByteNoWrite,
    lineByteRead, lineByteNoRead, runLines_act, runLines_call, State.memRead8, State.busWrite_eq, State.busRead_eq,
    State.midway_loc, State.midway_cfg]
  cases hok : (s.answerAt 0).ok with
  | false =>
    simp only [State.midway_diag, State.midway_setLoc, State.midway_advance, State.midway_loc, Bool.false_eq_true,
      if_false, Bool.false_and]
  | true =>
    have h1 (es : List Event) : (s.afterBus 1 es).returnsNow = true :=
      (State.Returns.afterBus (n := 1) (m := 1) (by simpa [State.readCalls, hok] using h) es).now
    simp only [State.midway_advance, State.midway_loc, if_true, State.midway_returnsNow, h1, State.midway_endCall,
      State.complete_busRead, State.afterBus_answerAt, State.bytesRead]
    cases (s.answerAt (1 + 0)).ok <;>
      simp only [State.midway_diag, State.midway_advance, Bool.false_eq_true, if_true, if_false,
        List.take, Option.isNone_none, Option.isNone_some, Bool.and_self, Bool.and_false]

/-- The inlined `MemRead(reg, 2)`, answered, is `MemRead(reg, 2)`. -/
theorem runLines_memRead16Lines (reg : Cfg → RegAddr) (h : s.Returns (s.readCalls 0)) :
    runLines (memRead16Lines reg ++ ls) (s.midway op k l)
      = runLines ls ((s.memRead16 (reg s.cfg)).2.midway op (k + 4)
          { l with ok := (s.answerAt 0).ok, word := (s.memRead16 (reg s.cfg)).1 }) := by
  have h0 : s.returnsNow = true := (h.mono (by unfold State.readCalls; split <;> omega) : s.Returns 1).now
  simp only [memRead16Lines, List.cons_append, List.nil_append, runLines_lineBusWrite _ _ _ _ _ _ h0, lineWordNoWrite,
    lineWordRead, lineWordNoRead, runLines_act, runLines_call, State.memRead16, State.busWrite_eq, State.busRead_eq,
    State.midway_loc, State.midway_cfg]
  cases hok : (s.answerAt 0).ok with
  | false =>
    simp only [State.midway_diag, State.midway_setLoc, State.midway_advance, State.midway_loc, Bool.false_eq_true,
      if_false, Bool.false_and]
  | true =>
    have h1 (es : List Event) : (s.afterBus 1 es).returnsNow = true :=
      (State.Returns.afterBus (n := 1) (m := 1) (by simpa [State.readCalls, hok] using h) es).now
    simp only [State.midway_advance, State.midway_loc, if_true, State.midway_returnsNow, h1, State.midway_endCall,
      State.complete_busRead, State.afterBus_answerAt, State.bytesRead]
    cases (s.answerAt (1 + 0)).ok <;>
      simp only [State.midway_diag, State.midway_advance, Bool.false_eq_true, if_true, if_false,
        List.take, Option.isNone_none, Option.isNone_some, Bool.and_self, Bool.and_false]

end

end Sys2Proof.Machine
end

