-- ==== Sys2Proof/Machine/SensorStub.lean ====
section
/-! DEFINITION. The reference sensor stub of 95_test_vectors.md section 5: "not normative". It is no part of the
machine, whose bus answers are inputs under no law (R52); it says which answers one possible sensor would have given. -/

namespace Sys2Proof.Machine

/-- The stub's state: "regs[0..15], 16 bytes; ptr, 4 bits", and the address it answers at. -/
structure Stub where
  addr : Nat
  regs : Vector Byte 16
  ptr : BitVec 4
deriving DecidableEq, Repr

/-- The registers the stub ignores writes to: 0xA and 0xC to 0xF. -/
def Stub.readOnly (r : BitVec 4) : Bool := r == 0xA#4 || decide (0xC#4 ≤ r)

/-- The stub's answer to `BusWrite(a, frame)`. -/
def Stub.write (t : Stub) (a : Nat) (frame : List Byte) : Bool × Stub :=
  if a = t.addr then
    match frame with
    | [c] => (true, { t with ptr := c.extractLsb' 0 4 })
    | [c, v] =>
      let r : BitVec 4 := c.extractLsb' 0 4
      (true, if Stub.readOnly r then t else { t with regs := t.regs.setIfInBounds r.toNat v })
    | _ => (false, t)
  else (false, t)

/-- The stub's answer to `BusRead(a, n)`: `n` bytes from `ptr` on, modulo 16. -/
def Stub.read (t : Stub) (a n : Nat) : Option (List Byte) :=
  if a = t.addr then some ((List.range n).map fun k => (t.regs.toList[(t.ptr.toNat + k) % 16]?).getD 0) else none

/-- The stub after a trace, if every answer in the trace is the one the stub gives. -/
def Stub.replay (t : Stub) : List Event → Option Stub
  | [] => some t
  | .busWrite a f ok :: es => if (t.write a f).1 = ok then (t.write a f).2.replay es else none
  | .busRead a n d :: es => if t.read a n = d then t.replay es else none
  | .delay _ :: es => t.replay es
  | .diag _ :: es => t.replay es

end Sys2Proof.Machine
end

