-- ==== Sys2Proof/Tests/Slice0.lean ====
section
/-! SUPPORT. The model's own tests. Expected results are the spec's: the words of 95_test_vectors.md section 2, the
vectors V and L of sections 3 and 4 (numbers in the names), and the examples of the rules. Then a witness for the
hypotheses of every statement that has some. -/

namespace Sys2Proof.Tests
open Sys2Proof.Machine

/-! ### Well-formedness: each check refuses an ill-formed term -/

theorem test_wf_wrreg_reg : Instr.wf Cfg.defaults (.wrreg 0x10#8 0) = false := by decide
theorem test_wf_rdreg_reg : Instr.wf Cfg.defaults (.rdreg 0x10#8) = false := by decide
theorem test_wf_rdreg16_reg : Instr.wf Cfg.defaults (.rdreg16 0x80#8) = false := by decide
theorem test_wf_frameWrite_reg : Instr.wf Cfg.defaults (.frameWrite 0x20#8 0) = false := by decide
theorem test_wf_frameRead8_reg : Instr.wf Cfg.defaults (.frameRead8 0x10#8) = false := by decide
theorem test_wf_frameRead16_reg : Instr.wf Cfg.defaults (.frameRead16 0x10#8) = false := by decide
theorem test_wf_last_reg : Instr.wf Cfg.defaults (.rdreg16 0xF#8) = true := by decide

theorem test_cfg_defaults : Cfg.defaults.WF := by decide
theorem test_cfg_luxScale : ¬ { Cfg.defaults with luxScale := 0 }.WF := by decide
theorem test_cfg_regW : ¬ { Cfg.defaults with regW := 9 }.WF := by decide
theorem test_cfg_command_overlaps_word : ¬ { Cfg.defaults with readWordBit := 0x80 }.WF := by decide
theorem test_cfg_command_overlaps_reg : ¬ { Cfg.defaults with commandBit := 0x08 }.WF := by decide
theorem test_cfg_word_overlaps_reg : ¬ { Cfg.defaults with readWordBit := 0x01 }.WF := by decide
theorem test_cfg_register_too_wide : ¬ { Cfg.defaults with regId := 0x1A }.WF := by decide
theorem test_cfg_same_modes : ¬ { Cfg.defaults with itFast := 1 }.WF := by decide
theorem test_cfg_same_packages : ¬ { Cfg.defaults with pkgCs := 1 }.WF := by decide
theorem test_cfg_descending_table : ¬ { Cfg.defaults with tableCs := defaultTableCs.set 0 ⟨134, 0, 0⟩ }.WF := by decide
theorem test_cfg_eighth_threshold_free : { Cfg.defaults with tableCs := defaultTableCs.set 7 ⟨0, 0, 0⟩ }.WF := by decide
theorem test_cfg_no_word_bit : ¬ { Cfg.defaults with readWordBit := 0 }.WF := by decide
theorem test_cfg_same_registers : ¬ { Cfg.defaults with regTiming := 0 }.WF := by decide

/-! ### Decoding: words written out from the encodings (R83, R87 to R89; 95 section 2) -/

theorem test_decode_wrreg : decodeTableWord 40 0x100000FFF = some (.wrreg 0xF#8 0xFF#8) := by decide
theorem test_decode_rdreg : decodeTableWord 40 0x200000A00 = some (.rdreg 0xA#8) := by decide
theorem test_decode_rdreg16 : decodeTableWord 40 0x300000C00 = some (.rdreg16 0xC#8) := by decide
theorem test_decode_enable : decodeTableWord 40 0x400000000 = some .enable := by decide
theorem test_decode_disable : decodeTableWord 40 0x500000000 = some .disable := by decide
theorem test_decode_init : decodeTableWord 40 0x600000000 = some .init := by decide
theorem test_decode_setit : decodeTableWord 40 0x700000001 = some (.setit 0b01#2) := by decide
theorem test_decode_setgain : decodeTableWord 40 0x800000010 = some (.setgain 1#1) := by decide
theorem test_decode_rdchan : decodeTableWord 40 0x900000000 = some .rdchan := by decide
theorem test_decode_lux : decodeTableWord 40 0xA00320064 = some (.lux 0x0064#16 0x0032#16) := by decide
theorem test_decode_frameWrite : decodeTableWord 16 0x8112 = some (.frameWrite 0x1#8 0x12#8) := by decide
theorem test_decode_frameRead8 : decodeTableWord 8 0x8F = some (.frameRead8 0xF#8) := by decide
theorem test_decode_frameRead16 : decodeTableWord 8 0xAE = some (.frameRead16 0xE#8) := by decide

theorem test_refuse_opcodes :
    [0x000000000, 0xB00000000, 0xFFFFFFFFF].map (decodeTableWord 40) = [none, none, none] := by decide
theorem test_refuse_must_be_zero :
    [0x700000004, 0x800000001, 0x200000A01, 0x100001000, 0x600000001, 0x980000000].map (decodeTableWord 40)
      = [none, none, none, none, none, none] := by decide
theorem test_refuse_frames :
    decode Cfg.defaults (.frame1 0xC1) = .error .notAFrame
      ∧ decode Cfg.defaults (.frame1 0x91) = .error .notAFrame
      ∧ decode Cfg.defaults (.frame2 0xA112) = .error .notAFrame := ⟨rfl, rfl, rfl⟩

/-! ### One step of each operation -/

/-- A bus answer: `ok` with nothing to read, `fail`, and `ok` with the bytes read. -/
def ok : Answer := ⟨true, 0, 0⟩
def fail : Answer := ⟨false, 0, 0⟩
def bytes (b0 b1 : Byte) : Answer := ⟨true, b0, b1⟩

/-- The bus answers of an RDCHAN in which nothing fails. -/
def goodAnswers : List Answer := [ok, ok, bytes 0xE8 0x03, ok, bytes 0x2C 0x01, ok]

/-- A state after reset whose bus is going to answer `as`, and where every call is answered when LUXCORE looks. -/
def fresh (as : List Answer) : State := { State.reset with answers := as, returns := List.replicate 20 true }

/-- The same with the device registers written. -/
def device (g : BitVec 1) (it pkg : BitVec 2) (as : List Answer) : State :=
  (((fresh as).writeG g).writeIT it).writePKG pkg

/-- The last response as a word, and the trace, of the step that runs a request word. -/
def runs (s : State) (w : Nat) : Option (Option RespBits × List Event) :=
  (nextState? (step (s.withFetchWord 40 w))).map fun t => (t.responses.getLast?.map Response.toWord, t.trace)

/-- `G`, `IT`, `PKG` after the step that runs a request word. -/
def registers (s : State) (w : Nat) : Option (BitVec 1 × BitVec 2 × BitVec 2) :=
  (nextState? (step (s.withFetchWord 40 w))).map fun t => (t.g, t.it, t.pkg)

theorem test_V1_wrreg : runs (fresh [ok]) 0x100000112
    = some (some 0x000000000#34, [.busWrite 0x39 [0x81, 0x12] true]) := by decide
theorem test_V2_wrreg_fails : runs (fresh [fail]) 0x100000003
    = some (some 0x100000000#34, [.busWrite 0x39 [0x80, 0x03] false, .diag .busWriteFail]) := by decide
theorem test_V3_rdreg : runs (fresh [ok, bytes 0x50 0x77]) 0x200000A00
    = some (some 0x000000050#34, [.busWrite 0x39 [0x8A] true, .busRead 0x39 1 (some [0x50])]) := by decide
theorem test_V4_rdreg_fails : runs (fresh [fail, bytes 0x50 0]) 0x200000A00
    = some (some 0x100000000#34, [.busWrite 0x39 [0x8A] false, .diag .busReadFail]) := by decide
theorem test_V6_rdreg16 : runs (fresh [ok, bytes 0x34 0x12]) 0x300000C00
    = some (some 0x000001234#34, [.busWrite 0x39 [0xAC] true, .busRead 0x39 2 (some [0x34, 0x12])]) := by decide
theorem test_V7_rdreg16_fails : runs (fresh [ok, fail]) 0x300000E00
    = some (some 0x100000000#34, [.busWrite 0x39 [0xAE] true, .busRead 0x39 2 none, .diag .busReadFail]) := by decide
theorem test_V9_enable : runs (fresh [ok]) 0x400000000
    = some (some 0x000000000#34, [.busWrite 0x39 [0x80, 0x03] true]) := by decide
theorem test_V10_disable_fails : runs (fresh [fail]) 0x500000000
    = some (some 0x100000000#34, [.busWrite 0x39 [0x80, 0x00] false, .diag .busWriteFail]) := by decide
theorem test_V12_init : registers (device 1 1 0 [ok, ok, bytes 0 0, ok, bytes 0xC0 0, ok, bytes 0xFF 0, ok]) 0x600000000
    = some (1, 3, 3) := by decide
theorem test_V13_init_fails : runs (fresh [fail, fail, fail, fail, fail]) 0x600000000
    = some (some 0x000000000#34,
        [.busWrite 0x39 [0x80, 0x03] false, .diag .busWriteFail, .busWrite 0x39 [0x80] false, .diag .busReadFail,
         .diag .initPower, .busWrite 0x39 [0x8A] false, .diag .busReadFail, .busWrite 0x39 [0x81] false,
         .diag .busReadFail, .busWrite 0x39 [0x80, 0x00] false, .diag .busWriteFail]) := by decide
theorem test_V15_setit_trace : runs (device 0 2 0 [ok, fail, ok]) 0x700000000
    = some (some 0x000000000#34,
        [.busWrite 0x39 [0x80, 0x03] true, .busWrite 0x39 [0x81, 0x00] false, .diag .busWriteFail,
         .busWrite 0x39 [0x80, 0x00] true]) := by decide
theorem test_V15_setit_shadow : registers (device 0 2 0 [ok, fail, ok]) 0x700000000 = some (0, 0, 0) := by decide
theorem test_V16_setgain_trace : runs (device 0 2 1 [ok, ok, ok]) 0x800000010
    = some (some 0x000000000#34,
        [.busWrite 0x39 [0x80, 0x03] true, .busWrite 0x39 [0x81, 0x12] true, .busWrite 0x39 [0x80, 0x00] true]) := by
  decide
theorem test_V17_setgain_shadow : registers (device 1 3 1 [ok, ok, ok]) 0x800000000 = some (0, 3, 1) := by decide

/-- The reads that V18, V19, V24 and V25 call faults are the ones `ReadsUnwritten` says; the operation runs on what the
register holds after reset (notes/assumptions/1.md). -/
theorem test_V18_V19_V24_V25_unwritten :
    (fresh []).ReadsUnwritten (.setit 1) ∧ (fresh []).ReadsUnwritten (.setgain 1)
      ∧ (fresh []).ReadsUnwritten .rdchan ∧ (fresh []).ReadsUnwritten (.lux 100 50) :=
  ⟨.inl ⟨rfl, rfl⟩, .inr (.inl ⟨rfl, rfl⟩), .inr (.inl ⟨rfl, rfl⟩), .inl ⟨rfl, rfl⟩⟩
theorem test_setit_runs_from_reset : (runs (fresh [ok, ok, ok]) 0x700000001).map (·.1) = some (some 0#34) := by decide

theorem test_V20_rdchan : runs (device 0 2 1 goodAnswers) 0x900000000
    = some (some 0x0012C03E8#34,
        [.busWrite 0x39 [0x80, 0x03] true, .delay 402, .busWrite 0x39 [0xAC] true,
         .busRead 0x39 2 (some [0xE8, 0x03]), .busWrite 0x39 [0xAE] true, .busRead 0x39 2 (some [0x2C, 0x01]),
         .busWrite 0x39 [0x80, 0x00] true]) := by decide
theorem test_V22_rdchan_fails : runs (device 1 1 0 [ok, fail, ok, bytes 5 0, ok]) 0x900000000
    = some (some 0x000050000#34,
        [.busWrite 0x39 [0x80, 0x03] true, .delay 101, .busWrite 0x39 [0xAC] false, .diag .busReadFail,
         .busWrite 0x39 [0xAE] true, .busRead 0x39 2 (some [0x05, 0x00]), .busWrite 0x39 [0x80, 0x00] true]) := by decide
theorem test_L77_lux_greatest : runs (device 1 0 0 []) 0xA0000FFFF = some (some 966679#34, []) := by decide
theorem test_L72_lux_unknown : runs (device 0 2 2 []) 0xA00320064 = some (some 0#34, [.diag .pkgUnknown]) := by decide
theorem test_L56_clamp : luxOf Cfg.defaults 2 0 0 1024 1332 = 0 := by decide
theorem test_L68_rounding : luxOf Cfg.defaults 2 0 1 125 11 = 4 := by decide
theorem test_refused_request : runs (fresh []) 0x700000004 = some (some 0x200000000#34, []) := by decide

/-- RDCHAN whose delay returns at the third look: two steps of waiting, then the counts (R152). -/
def slowDelay : State :=
  { device 0 2 1 goodAnswers with returns := [true, false, false] ++ List.replicate 20 true }
theorem test_rdchan_blocks :
    (nextState? (step (slowDelay.withFetchWord 40 0x900000000))).map
      (fun t => (t.busy, t.pendingCall, t.trace, t.responses))
      = some (true, some (.delay 402), [.busWrite 0x39 [0x80, 0x03] true], []) := by decide
theorem test_rdchan_ends :
    (nextState? (Host.Core.run Sys2Proof.core 3 (slowDelay.withFetchWord 40 0x900000000))).map
      (fun t => (t.busy, t.responses.map Response.toWord)) = some (false, [0x0012C03E8#34]) := by decide

/-- A bus that answers the command byte of INIT's identification read and never the read itself (R241): the third read
access hangs there, with what was done before it done. -/
def deadBus : State :=
  { device 1 2 0 [ok, ok, bytes 3 0, ok] with returns := List.replicate 4 true ++ List.replicate 9 false }
theorem test_init_hangs :
    (nextState? (Host.Core.run Sys2Proof.core 9 (deadBus.withFetchWord 40 0x600000000))).map
      (fun t => (t.busy, t.pendingCall, t.trace, t.responses))
      = some (true, some (.busRead 1),
          [.busWrite 0x39 [0x80, 0x03] true, .busWrite 0x39 [0x80] true, .busRead 0x39 1 (some [0x03]),
           .busWrite 0x39 [0x8A] true], []) := by decide
/-- One look later the bus answers, and WRREG ends as if it had not waited. -/
theorem test_wrreg_waits :
    (nextState? (Host.Core.run Sys2Proof.core 2
      ({ fresh [fail] with returns := [false, true] }.withFetchWord 40 0x100000003))).map
      (fun t => (t.trace, t.responses.map Response.toWord))
      = some ([.busWrite 0x39 [0x80, 0x03] false, .diag .busWriteFail], [0x100000000#34]) := by decide

/-- FRAME.READ16 on register 0xC: the word-read access of 95 section 2.2, and no response. -/
theorem test_frameRead16 :
    (nextState? (step ((fresh [ok, bytes 0xE8 0x03]).withFetchWord 8 0xAC))).map (fun t => (t.trace, t.responses))
      = some ([.busWrite 0x39 [0xAC] true, .busRead 0x39 2 (some [0xE8, 0x03])], []) := by decide
theorem test_frameRead8 :
    (nextState? (step ((fresh [ok, bytes 0x50 0]).withFetchWord 8 0x8A))).map (fun t => (t.trace, t.responses))
      = some ([.busWrite 0x39 [0x8A] true, .busRead 0x39 1 (some [0x50])], []) := by decide
theorem test_frameWrite :
    (nextState? (step ((fresh [fail]).withFetchWord 16 0x8112))).map (fun t => (t.trace, t.responses))
      = some ([.busWrite 0x39 [0x81, 0x12] false, .diag .busWriteFail], []) := by decide

/-- A status that is never OK by accident (R84, R85). -/
theorem test_response_words :
    [Response.mk .ok 5, .mk .busFail 0, .mk .refused 0].map Response.toWord = [0x5#34, 0x100000000#34, 0x200000000#34] := by
  decide

/-- A reset inside INIT abandons it without a response (R220). -/
theorem test_reset_in_flight :
    (nextState? (seqSteps 2 ((fresh [ok]).accept .init))).map
      (fun t => (t.busy, t.applyReset.busy, t.applyReset.responses))
      = some (true, false, []) := by decide

/-! ### The assembler and the sensor stub -/

theorem test_assemble : assemble Cfg.defaults .setit [.default] = some (.setit 0b10#2)
    ∧ assemble Cfg.defaults .setgain [.high] = some (.setgain 0#1)
    ∧ assemble Cfg.defaults .rdreg [.num 16] = none := by decide

/-- The stub of 95 section 5 answers INIT of program P1 as shown there. -/
def stubP1 : Stub := ⟨0x39, #v[0, 0x02, 0, 0, 0, 0, 0, 0, 0, 0, 0x50, 0, 0xE8, 0x03, 0x2C, 0x01], 0⟩
theorem test_stub_rdchan :
    ((nextState? (exec .rdchan (device 0 2 1 goodAnswers))).bind
      fun t => stubP1.replay t.trace).isSome = true := by decide
/-- After SETIT 1 of P2 the stub holds `regs[0x1] = 0x11`. -/
theorem test_stub_setit :
    ((nextState? (exec (.setit 1) (device 1 2 0 [ok, ok, ok]))).bind fun t => stubP1.replay t.trace).map
      (fun st => st.regs[1]) = some 0x11#8 := by decide

/-! ### Witnesses: states and operands that meet the hypotheses of each statement -/

theorem witness_EncodeThenDecode : Cfg.defaults.WF ∧ Instr.wf Cfg.defaults (.wrreg 0xF#8 0xFF#8) = true := by decide

theorem witness_DecodedWords :
    Cfg.defaults.WF ∧ decode Cfg.defaults (.req 0xAFFFFFFFF#36) = .ok (.lux 0xFFFF#16 0xFFFF#16) := ⟨by decide, rfl⟩

theorem witness_TableRows :
    (⟨"SETGAIN", 0x800000000#36, 0xFFFFFFFEF#36⟩ : ReqRow) ∈ reqRows
      ∧ ReqRow.selects ⟨"SETGAIN", 0x800000000#36, 0xFFFFFFFEF#36⟩ 0x800000010#36 = true := by decide

theorem witness_UnmatchedRequest :
    let s := (fresh []).withFetchWord 40 0x800000001
    s.cfg = Cfg.defaults ∧ s.run = none ∧ s.requests = [.req 0x800000001#36]
      ∧ ∀ r ∈ reqRows, r.selects 0x800000001#36 = false := by decide

theorem witness_CommandByte : Cfg.defaults.WF ∧ Cfg.defaults.IsReg 0xF#8 := by decide

/-- Every call of an operation answered: the hypothesis of each statement of an operation's effect, at its number of
calls, from the state its tests start in. -/
theorem witness_Returns : ∀ n ≤ 20, (device 1 3 0 []).Returns n := by
  intro n hn k hk
  have h : ∀ k < 20, (device 1 3 0 []).returnsAt k = true := by decide
  exact h k (by omega)

/-- The same where the calls that are answered are exactly those a failed and a good read make. -/
theorem witness_Returns_read_fails :
    let s := { fresh [fail] with returns := [true] }
    s.readCalls 0 = 1 ∧ s.Returns (s.readCalls 0) := by
  refine ⟨rfl, fun k hk => ?_⟩
  obtain rfl : k = 0 := Nat.lt_one_iff.mp hk
  rfl
theorem witness_Returns_read :
    let s := { fresh [ok, ok] with returns := [true, true] }
    s.readCalls 0 = 2 ∧ ∀ k < 2, s.returnsAt k = true := by decide

/-- An RDCHAN blocked inside its `Delay`, which the collaborator will end or not. -/
def blockedRdchan (returns : Bool) : State :=
  { device 0 2 1 [ok, bytes 0 0, ok, bytes 0 0, ok] with
    run := some { op := .rdchan, seq := 3, waiting := true, loc := { ok := true, it := 2 } }
    returns := returns :: List.replicate 8 true }
theorem witness_RdchanBlocks_call : slowDelay.returnsAt 0 = true ∧ slowDelay.returnsAt 1 = false := ⟨rfl, rfl⟩
theorem witness_RdchanBlocks_waits :
    (blockedRdchan false).pendingCall = some (.delay 402) ∧ (blockedRdchan false).returnsAt 0 = false := ⟨rfl, rfl⟩
theorem witness_RdchanBlocks_ends :
    (blockedRdchan true).pendingCall = some (.delay 402) ∧ ∀ k < 8, (blockedRdchan true).returnsAt k = true :=
  ⟨rfl, by decide⟩
theorem witness_RdchanBlocks_hangs :
    (blockedRdchan false).pendingCall = some (.delay 402) ∧ ∀ n < 1, (blockedRdchan false).returnsAt n = false :=
  ⟨rfl, by decide⟩

/-- A WRREG blocked inside its bus write. -/
def blockedWrreg (returns : List Bool) : State :=
  { fresh [ok] with run := some { op := .wrreg 1 0x12, waiting := true }, returns := returns }
theorem witness_Hang_first_call : (∀ raw0 raw1, Instr.init ≠ .lux raw0 raw1)
    ∧ { fresh [] with returns := [false] }.returnsAt 0 = false := ⟨fun _ _ => nofun, rfl⟩
theorem witness_Hang_busy : ∃ t, exec .init { fresh [ok] with returns := [true, false] } = .next t ∧ t.busy = true :=
  ⟨_, rfl, rfl⟩
theorem witness_Hang_for_good : (blockedWrreg [false, false, false]).pendingCall = some (.busWrite [0x81, 0x12])
    ∧ ∀ n < 3, (blockedWrreg [false, false, false]).returnsAt n = false := ⟨rfl, by decide⟩
theorem witness_Hang_ends : (blockedWrreg (List.replicate 8 true)).pendingCall = some (.busWrite [0x81, 0x12])
    ∧ ∀ n < 8, (blockedWrreg (List.replicate 8 true)).returnsAt n = true := ⟨rfl, by decide⟩

theorem witness_ReadsAWrittenRegister : (device 1 3 2 []).AllWritten := ⟨rfl, rfl, rfl⟩

/-- A known package, with a ratio at a threshold (L30), one above it (L31) and above the seventh (L43). -/
theorem witness_Lux_bands :
    bandIndex defaultTableTfncl (ratioOf Cfg.defaults 1024 128) = 0
      ∧ bandIndex defaultTableTfncl (ratioOf Cfg.defaults 1024 129) = 1
      ∧ bandIndex defaultTableTfncl (ratioOf Cfg.defaults 1024 1333) = 7 := by decide

theorem witness_UnknownPackage :
    let s := device 0 2 2 []
    1 ≤ s.cfg.luxScale ∧ s.pkg ≠ s.cfg.pkgCs ∧ s.pkg ≠ s.cfg.pkgTfncl := by decide

theorem witness_UnknownPackage_others :
    (∃ t, exec .init (fresh []) = .next t) ∧ ∃ t, exec (.lux 1 1) (device 0 2 1 []) = .next t := ⟨⟨_, rfl⟩, ⟨_, rfl⟩⟩

theorem witness_DefaultLux_and_ZeroCount : (device 1 0 0 []).cfg = Cfg.defaults := rfl

theorem witness_BandSelection : (665 : Nat) ≤ 666 ∧ bandIndex defaultTableCs 666 = 6 := by decide

/-- The clamp case of L60. -/
theorem witness_Underflow :
    let s := device 0 2 0 []
    let channel0 := normalize s.cfg (gainAdjust s.cfg s.g (chscaleOf s.cfg s.it)) 1000
    let channel1 := normalize s.cfg (gainAdjust s.cfg s.g (chscaleOf s.cfg s.it)) 1290
    let coeff := coefficients s.cfg s.pkg (ratioOf s.cfg channel0 channel1)
    1 ≤ s.cfg.luxScale ∧ channel0 * coeff.1 < channel1 * coeff.2 := by decide

theorem witness_FinalRounding : 1 ≤ Cfg.defaults.luxScale := by decide

theorem witness_InitMakesReadable :
    (device 0 2 1 []).AllWritten ∧ ∃ t, step ((device 0 2 1 []).withFetchWord 40 0x400000000) = .next t :=
  ⟨⟨rfl, rfl, rfl⟩, ⟨_, rfl⟩⟩

theorem witness_DeviceRegisters : Instr.enable ≠ .init ∧ ∃ t, exec .enable (fresh []) = .next t :=
  ⟨by decide, ⟨_, rfl⟩⟩

theorem witness_StepRuns_decoded :
    let s := (fresh []).withFetchWord 40 0x400000000
    s.run = none ∧ s.requests = [.req 0x400000000#36] ∧ decode s.cfg (.req 0x400000000#36) = .ok .enable :=
  ⟨rfl, rfl, rfl⟩

theorem witness_StepRuns_no_frame :
    let s := (fresh []).withFetchWord 8 0xC1
    s.run = none ∧ s.requests = [.frame1 0xC1#8] ∧ decode s.cfg (.frame1 0xC1#8) = .error .notAFrame :=
  ⟨rfl, rfl, rfl⟩

theorem witness_StepRuns_idle : (fresh []).run = none ∧ (fresh []).requests = [] := ⟨rfl, rfl⟩

/-- A block in flight, at its first and at its last line. -/
theorem witness_StepRuns_busy :
    ((fresh []).accept .init).run = some { op := .init } ∧ 0 < (linesOf .init).length
      ∧ 20 < (linesOf .init).length ∧ (linesOf .init).length = 21 := ⟨rfl, by decide, by decide, rfl⟩

theorem witness_StepRuns_blocked : ∃ r, (blockedRdchan true).run = some r ∧ r.waiting = true
    ∧ r.seq < (linesOf r.op).length := ⟨_, rfl, rfl, by decide⟩

theorem witness_FetchedWord :
    (fresh []).cfg = Cfg.defaults ∧ decodeTableWord 40 0x900000000 = some .rdchan := ⟨rfl, rfl⟩

theorem witness_StepKeepsInvariant :
    ((device 0 2 1 []).withFetchWord 40 0x900000000).Inv
      ∧ ∃ t, step ((device 0 2 1 []).withFetchWord 40 0x900000000) = .next t := by
  refine ⟨⟨by decide, by decide, fun r h => ?_, fun e h => ?_⟩, ⟨_, rfl⟩⟩
  · cases h
  · cases h

/-- A busy state, with the answers INIT meets in V11. -/
def busyInit : State := (fresh [ok, ok, bytes 3 0, ok, bytes 0x50 0, ok, bytes 2 0, ok]).accept .init

theorem witness_StepKeepsAddress : ∃ t, step busyInit = .next t := ⟨_, rfl⟩

theorem witness_FailedCalls_blocked :
    (blockedRdchan false).Settled ∧ DiagsMatchFailures (.delay 0 :: (blockedRdchan false).trace) := by
  refine ⟨.inr ⟨_, rfl⟩, ?_⟩
  simp [DiagsMatchFailures, Event.demands, blockedRdchan, device, fresh, State.reset, State.writeG, State.writeIT,
    State.writePKG]

theorem witness_FailedCalls :
    let s := (fresh [fail]).withFetchWord 40 0x400000000
    s.Settled ∧ DiagsMatchFailures (.delay 0 :: s.trace) ∧ ∃ t, step s = .next t := by
  refine ⟨.inl rfl, ?_, ⟨_, rfl⟩⟩
  simp [DiagsMatchFailures, Event.demands, State.withFetchWord, fresh, State.reset]

theorem witness_CallsBounded : ∃ t, exec .init (fresh [fail, fail, fail, fail, fail]) = .next t := ⟨_, rfl⟩

theorem witness_PowerBracket :
    IsBracketed .rdchan ∧ ∃ t, exec .rdchan (device 0 2 1 goodAnswers) = .next t ∧ t.busy = false :=
  ⟨trivial, ⟨_, rfl, rfl⟩⟩

theorem witness_LastTimingByte :
    (fresh []).cfg.WF ∧ (∀ k < 14, (fresh []).returnsAt k = true) ∧ (∃ s', exec .init (fresh []) = .next s')
      ∧ ([.setgain 1, .setit 1] : List Instr) ≠ [] ∧ ∀ i ∈ ([.setgain 1, .setit 1] : List Instr), IsSetter i := by
  refine ⟨by decide, by decide, ⟨_, rfl⟩, by decide, fun i h => ?_⟩
  rcases List.mem_cons.mp h with rfl | h
  · trivial
  · cases List.mem_singleton.mp h
    trivial

/-- Every operation has its calls answered from a fresh state. -/
theorem witness_SequencerRefines (i : Instr) : (fresh []).Returns (waitBound i) := by
  have h : ∀ k < 20, (fresh []).returnsAt k = true := by decide
  intro k hk
  refine h k (Nat.lt_trans hk ?_)
  cases i <;> simp [waitBound, busCallBound, delayCount]

/-- In RDCHAN `seq` is 0 at acceptance, and stays at the line of a call from the making of it to its answer. -/
theorem witness_SequencerBusy :
    [0, 1, 2, 3, 4, 5, 6].map (fun k => ((nextState? (seqSteps k ((fresh [ok]).accept .rdchan))).bind (·.run)).map
        fun r => (r.seq, r.waiting))
      = [some (0, false), some (1, false), some (1, true), some (2, false), some (3, false), some (3, true),
         some (4, false)] := by decide

theorem witness_RunsComplete :
    let s := { device 0 2 1 [] with requests := [.req 0x900000000#36, .req 0xFFFFFFFFF#36] }
    s.run = none ∧ (∀ n < 16, s.returnsAt n = true) ∧ ∀ w ∈ s.requests, ∃ b, w = .req b := by
  refine ⟨rfl, by decide, fun w h => ?_⟩
  rcases List.mem_cons.mp h with rfl | h
  · exact ⟨_, rfl⟩
  · cases List.mem_singleton.mp h
    exact ⟨_, rfl⟩

theorem witness_History : ∃ t, step ((fresh [fail]).withFetchWord 40 0x100000112) = .next t := ⟨_, rfl⟩

theorem witness_Measure : ∃ t, exec .rdchan (device 0 2 1 goodAnswers) = .next t ∧ t.busy = false := ⟨_, rfl, rfl⟩

theorem witness_GainPolarity :
    (∃ t, exec .rdchan (device 0 2 1 []) = .next t) ∧ ∃ t, exec (.lux 100 50) (device 0 2 1 []) = .next t :=
  ⟨⟨_, rfl⟩, ⟨_, rfl⟩⟩

theorem witness_ResponseCodes : ∃ t, exec .rdchan (device 0 2 1 goodAnswers) = .next t ∧ t.responses ≠ [] := ⟨_, rfl, by decide⟩

theorem witness_Assembled : Cfg.defaults.WF ∧ assemble Cfg.defaults .wrreg [.timing, .num 0x12]
    = some (.wrreg 0x01#8 0x12#8) := ⟨by decide, rfl⟩

end Sys2Proof.Tests
end

/-! ### What a step does, one equation per case -/

namespace Sys2Proof.Machine

/-- Every operation runs its own lines from its acceptance on. -/
theorem exec_eq_runLines (i : Instr) (s : State) : exec i s = .next (runLines (linesOf i) (s.accept i)) := by
  cases i <;> rfl

/-- A busy step runs the remaining lines (R26). -/
theorem step_of_busy {s : State} {r : Running} (hr : s.run = some r) (hk : r.seq < (linesOf r.op).length) :
    step s = .next (runLines ((linesOf r.op).drop r.seq) s) := by
  simp only [step, hr, finish, if_pos hk]

theorem step_of_no_such_line {s : State} {r : Running} (hr : s.run = some r) (hk : ¬ r.seq < (linesOf r.op).length) :
    step s = .fault .noSuchLine := by
  simp only [step, hr, finish, if_neg hk]

theorem step_of_no_request {s : State} (hr : s.run = none) (hq : s.requests = []) : step s = .next s := by
  simp only [step, hr, hq]

/-- An idle step executes the operation its word decodes to (R81, R82). -/
theorem step_of_decode_ok {s : State} {w : PortWord} {rest : List PortWord} {i : Instr} (hr : s.run = none)
    (hq : s.requests = w :: rest) (hw : decode s.cfg w = .ok i) : step s = exec i { s with requests := rest } := by
  simp only [step, hr, hq, hw]

theorem step_of_notAFrame {s : State} {w : PortWord} {rest : List PortWord} (hr : s.run = none)
    (hq : s.requests = w :: rest) (hw : decode s.cfg w = .error .notAFrame) : step s = .refused .notAFrame := by
  simp only [step, hr, hq, hw]

/-- A request word that is no operation is answered REFUSED (R92). -/
theorem step_of_decode_error {s : State} {w : PortWord} {rest : List PortWord} {e : DecodeError} (hr : s.run = none)
    (hq : s.requests = w :: rest) (hw : decode s.cfg w = .error e) (he : e ≠ .notAFrame) :
    step s = .next (State.refuse { s with requests := rest }) := by
  cases e with
  | notAFrame => exact absurd rfl he
  | reservedOp => simp only [step, hr, hq, hw]
  | mustBeZero => simp only [step, hr, hq, hw]

/-- Settles O29: the equations of `step`, case by case. -/
theorem stepRunsTheDecodedOperation : Obligations.StepRunsTheDecodedOperation := fun _ =>
  ⟨fun _ _ _ => step_of_decode_ok, fun _ _ => step_of_notAFrame, step_of_no_request, fun _ => step_of_busy⟩

end Sys2Proof.Machine

/-! ### The three fields of the command byte (R11, R86) -/

namespace Sys2Proof.Machine

/-- A register address has no bit outside the register field. -/
theorem isReg_and_eq_zero {c : Cfg} (h8 : c.regW ≤ 8) {r : RegAddr} (hr : c.IsReg r) {b : Byte}
    (hb : c.regMask &&& b = 0) : r &&& b = 0 := by
  rw [← and_regMask_of_isReg h8 hr, BitVec.and_assoc, hb]
  exact BitVec.and_zero

/-- The command bit is set in every command byte (R86). -/
theorem cmd_and_commandBit {c : Cfg} (hc : c.WF) {r : RegAddr} (hr : c.IsReg r) (w : Bool) :
    cmd c r w &&& c.commandBit = c.commandBit := by
  obtain ⟨_, h8, hcw, hcm, _⟩ := hc
  rw [BitVec.and_comm] at hcw hcm
  have hr := isReg_and_eq_zero h8 hr hcm
  cases w <;> simp [BitVec.and_or_distrib_right, hcw, hr]

/-- The word-read bit is set in the command byte of a word read and in no other (R86). -/
theorem cmd_and_readWordBit {c : Cfg} (hc : c.WF) {r : RegAddr} (hr : c.IsReg r) (w : Bool) :
    cmd c r w &&& c.readWordBit = if w then c.readWordBit else 0 := by
  obtain ⟨_, h8, hcw, _, hwm, _⟩ := hc
  rw [BitVec.and_comm] at hwm
  have hr := isReg_and_eq_zero h8 hr hwm
  cases w <;> simp [BitVec.and_or_distrib_right, hcw, hr]

/-- The command byte is what it holds in its three fields, so it has no bit outside them (R11, R86). -/
theorem cmd_and_not_fields {c : Cfg} (hc : c.WF) {r : RegAddr} (hr : c.IsReg r) (w : Bool) :
    cmd c r w &&& ~~~(c.commandBit ||| c.readWordBit ||| c.regMask) = 0 := by
  have fields : cmd c r w &&& (c.commandBit ||| c.readWordBit ||| c.regMask) = cmd c r w := by
    rw [BitVec.and_or_distrib_left, BitVec.and_or_distrib_left, cmd_and_commandBit hc hr, cmd_and_readWordBit hc hr,
      cmd_and_regMask hc hr, cmd]
  rw [← fields, BitVec.and_assoc, BitVec.and_not_self]
  exact BitVec.and_zero

/-- Settles O6: one lemma for each field of the command byte. -/
theorem commandByteKeepsItsThreeFields : Obligations.CommandByteKeepsItsThreeFields := fun _ _ w hc hr =>
  ⟨cmd_and_regMask hc hr w, cmd_and_commandBit hc hr w, cmd_and_readWordBit hc hr w, cmd_and_not_fields hc hr w⟩

end Sys2Proof.Machine

/-! ### Decoded operations are the machine's -/

namespace Sys2Proof

theorem accepting_eq_ok {zero : Bool} {i j : Instr} (h : accepting zero i = .ok j) : zero = true ∧ i = j := by
  cases zero with
  | true => exact ⟨rfl, Except.ok.inj h⟩
  | false => cases h

/-- A payload with no bit above the register field holds an address of `REG_W` bits (R83). -/
theorem isReg_regField {c : Cfg} {p : Payload} (h : aboveRegZero c p = true) : c.IsReg (regField p) := by
  have hp : p.toNat < 2 ^ (8 + c.regW) := of_decide_eq_true h
  rw [Nat.pow_add] at hp
  have field : (regField p).toNat = p.toNat / 256 % 256 := by
    simp [regField, BitVec.extractLsb'_toNat, Nat.shiftRight_eq_div_pow]
  rw [Cfg.IsReg, field]
  exact Nat.lt_of_le_of_lt (Nat.mod_le _ _) (Nat.div_lt_of_lt_mul hp)

theorem wf_of_decodeReq {c : Cfg} {w : ReqBits} {i : Instr} (h : decodeReq c w = .ok i) : i.wf c = true := by
  unfold decodeReq at h
  dsimp only at h
  split at h
  case h_1 =>
    obtain ⟨hz, rfl⟩ := accepting_eq_ok h
    exact decide_eq_true (isReg_regField hz)
  case h_2 | h_3 =>
    obtain ⟨hz, rfl⟩ := accepting_eq_ok h
    exact decide_eq_true (isReg_regField (Bool.and_eq_true_iff.mp hz).1)
  case h_10 => cases h; rfl
  case h_11 => cases h
  all_goals obtain ⟨-, rfl⟩ := accepting_eq_ok h; rfl

theorem wf_of_decodeFrame1 {c : Cfg} (h8 : c.regW ≤ 8) {b : Byte} {i : Instr} (h : decodeFrame1 c b = .ok i) :
    i.wf c = true := by
  unfold decodeFrame1 at h
  dsimp only at h
  split at h
  · cases h; exact decide_eq_true (isReg_and_regMask h8 b)
  · split at h
    · cases h; exact decide_eq_true (isReg_and_regMask h8 b)
    · cases h

theorem wf_of_decodeFrame2 {c : Cfg} (h8 : c.regW ≤ 8) {f : BitVec 16} {i : Instr} (h : decodeFrame2 c f = .ok i) :
    i.wf c = true := by
  unfold decodeFrame2 at h
  dsimp only at h
  split at h
  · cases h; exact decide_eq_true (isReg_and_regMask h8 _)
  · cases h

/-- What a word decodes to is an operation of the machine: its register operand has `REG_W` bits (R11, R50). -/
theorem wf_of_decode {c : Cfg} (hc : c.WF) {w : PortWord} {i : Instr} (h : decode c w = .ok i) : i.wf c = true := by
  obtain ⟨_, h8, _⟩ := hc
  cases w with
  | req w => exact wf_of_decodeReq h
  | frame1 b => exact wf_of_decodeFrame1 h8 h
  | frame2 f => exact wf_of_decodeFrame2 h8 h

end Sys2Proof

/-! ### What one line does

An act of LUXCORE's own keeps the parameters and the address, raises at most one diagnostic, and leaves the operation at
its line or ends it; the call of a line is legal. Every line of an operation is such a line. -/

namespace Sys2Proof.Machine

/-- The operation in flight, if there is one, is `i` at line `k` (R26). -/
def State.StandsAt (s : State) (i : Instr) (k : Nat) : Prop := ∀ r, s.run = some r → r.op = i ∧ r.seq = k

/-- What an act of LUXCORE's own may do to the state. -/
structure OwnAct (s t : State) : Prop where
  cfg : t.cfg = s.cfg
  addr : t.addr = s.addr
  trace : t.trace = s.trace ∨ ∃ d, t.trace = s.trace ++ [.diag d]
  standsAt : ∀ i k, s.StandsAt i k → t.StandsAt i k

/-- A call that is legal under the parameters: a frame of R87 to R89, a read of one or two bytes, one of the three waits
(R13, R59). -/
def Call.Legal (c : Cfg) : Call → Prop
  | .busWrite f => IsFrame c f
  | .busRead n => n = 1 ∨ n = 2
  | .delay d => d = c.waitFast ∨ d = c.waitMedium ∨ d = c.waitDefault

/-- A line of the operation `i` as the spec allows one. -/
def Line.Lawful (i : Instr) : Line → Prop
  | .act f => ∀ s, OwnAct s (f s)
  | .call c _ => ∀ s x, s.cfg.WF → i.wf s.cfg = true → c s = some x → x.Legal s.cfg

/-- Lines of the operation `i` as the spec allows them. -/
def LawfulLines (i : Instr) (ls : List Line) : Prop := ∀ l ∈ ls, l.Lawful i

/-- The register an access of the operation `i` names is a register address (R50). -/
def NamesReg (i : Instr) (reg : Cfg → RegAddr) : Prop := ∀ c : Cfg, c.WF → i.wf c = true → c.IsReg (reg c)

namespace OwnAct

variable {s t u : State}

theorem refl (s : State) : OwnAct s s := ⟨rfl, rfl, .inl rfl, fun _ _ => id⟩

theorem diag (s : State) (d : Diag) : OwnAct s (s.diag d) := ⟨rfl, rfl, .inr ⟨d, rfl⟩, fun _ _ => id⟩

/-- A write of the local names leaves the operation at its line. -/
theorem setLoc (h : OwnAct s t) (l : Locals) : OwnAct s (t.setLoc l) where
  cfg := h.cfg
  addr := h.addr
  trace := h.trace
  standsAt i k hs := by
    intro r hr
    obtain ⟨r', hr', rfl⟩ := Option.map_eq_some_iff.mp hr
    exact h.standsAt i k hs r' hr'

/-- The end of an operation leaves no operation at any line. -/
theorem respond (s : State) (st : Status) (d : BitVec 32) : OwnAct s (s.respond st d) :=
  ⟨rfl, rfl, .inl rfl, fun _ _ _ _ hr => nomatch hr⟩

theorem frameDone (s : State) : OwnAct s s.frameDone := ⟨rfl, rfl, .inl rfl, fun _ _ _ _ hr => nomatch hr⟩

theorem writeG (s : State) (v : BitVec 1) : OwnAct s (s.writeG v) := ⟨rfl, rfl, .inl rfl, fun _ _ => id⟩

theorem writeIT (s : State) (v : BitVec 2) : OwnAct s (s.writeIT v) := ⟨rfl, rfl, .inl rfl, fun _ _ => id⟩

theorem writePKG (s : State) (v : BitVec 2) : OwnAct s (s.writePKG v) := ⟨rfl, rfl, .inl rfl, fun _ _ => id⟩

theorem ite {p : Prop} [Decidable p] (ht : OwnAct s t) (hu : OwnAct s u) : OwnAct s (if p then t else u) := by
  split
  · exact ht
  · exact hu

theorem checkPower (s : State) (c : Byte) : OwnAct s (s.checkPower c) := .ite (.diag s _) (.refl s)

theorem checkPackage (s : State) (v : BitVec 2) : OwnAct s (s.checkPackage v) := .ite (.diag s _) (.refl s)

end OwnAct

/-! The lines that the operations share. -/

section
variable {i : Instr}

@[simp] theorem lawfulLines_nil : LawfulLines i [] := nofun

@[simp] theorem lawfulLines_cons {l : Line} {ls : List Line} :
    LawfulLines i (l :: ls) ↔ l.Lawful i ∧ LawfulLines i ls := List.forall_mem_cons

@[simp] theorem lawfulLines_append {ls ls' : List Line} :
    LawfulLines i (ls ++ ls') ↔ LawfulLines i ls ∧ LawfulLines i ls' := List.forall_mem_append

@[simp] theorem lawful_lineSet (f : State → Locals) : (lineSet f).Lawful i := fun s => (OwnAct.refl s).setLoc _

@[simp] theorem lawful_lineReadG : lineReadG.Lawful i := lawful_lineSet _

@[simp] theorem lawful_lineReadIT : lineReadIT.Lawful i := lawful_lineSet _

@[simp] theorem lawful_lineReadPKG : lineReadPKG.Lawful i := lawful_lineSet _

@[simp] theorem lawful_lineRespond (st : State → Status) (d : State → BitVec 32) : (lineRespond st d).Lawful i :=
  fun s => .respond s _ _

@[simp] theorem lawful_lineFrameDone : lineFrameDone.Lawful i := .frameDone

@[simp] theorem lawful_writeG (v : State → BitVec 1) : (Line.act fun s => s.writeG (v s)).Lawful i :=
  fun s => .writeG s _

@[simp] theorem lawful_writeIT (v : State → BitVec 2) : (Line.act fun s => s.writeIT (v s)).Lawful i :=
  fun s => .writeIT s _

@[simp] theorem lawful_writePKG (v : State → BitVec 2) : (Line.act fun s => s.writePKG (v s)).Lawful i :=
  fun s => .writePKG s _

@[simp] theorem lawful_checkPower (c : State → Byte) : (Line.act fun s => s.checkPower (c s)).Lawful i :=
  fun s => .checkPower s _

@[simp] theorem lawful_checkPackage (v : State → BitVec 2) : (Line.act fun s => s.checkPackage (v s)).Lawful i :=
  fun s => .checkPackage s _

/-- The delay is one of the three waits (R13, R151). -/
@[simp] theorem lawful_lineDelay_waitOf (it : State → BitVec 2) :
    (lineDelay fun s => waitOf s.cfg (it s)).Lawful i := by
  intro s x _ _ hx
  cases hx
  simp only [Call.Legal, waitOf]
  cases modeOf s.cfg (it s) <;> simp

theorem lawful_lineBusWrite {frame : State → List Byte}
    (h : ∀ s, s.cfg.WF → i.wf s.cfg = true → IsFrame s.cfg (frame s)) : (lineBusWrite frame).Lawful i := by
  intro s x hc hi hx
  cases hx
  exact h s hc hi

@[simp] theorem lawful_lineWriteFail : lineWriteFail.Lawful i := fun s => .ite (.refl s) (.diag s _)

@[simp] theorem lawful_lineByteNoWrite : lineByteNoWrite.Lawful i := fun s =>
  .ite (.refl s) ((OwnAct.diag s _).setLoc _)

@[simp] theorem lawful_lineByteRead : lineByteRead.Lawful i := by
  intro s x _ _ hx
  dsimp only at hx
  split at hx
  · cases hx; exact .inl rfl
  · cases hx

@[simp] theorem lawful_lineByteNoRead : lineByteNoRead.Lawful i := fun s => .ite (.diag s _) (.refl s)

@[simp] theorem lawful_lineWordNoWrite : lineWordNoWrite.Lawful i := fun s =>
  .ite (.refl s) ((OwnAct.diag s _).setLoc _)

@[simp] theorem lawful_lineWordRead : lineWordRead.Lawful i := by
  intro s x _ _ hx
  dsimp only at hx
  split at hx
  · cases hx; exact .inr rfl
  · cases hx

@[simp] theorem lawful_lineWordNoRead : lineWordNoRead.Lawful i := fun s => .ite (.diag s _) (.refl s)

@[simp] theorem lawful_memWriteLines {reg : Cfg → RegAddr} (hreg : NamesReg i reg) (v : State → Byte) :
    LawfulLines i (memWriteLines reg v) := by
  have frame := lawful_lineBusWrite (i := i) (frame := fun s => writeFrame s.cfg (reg s.cfg) (v s)) fun s hc hi =>
    ⟨_, hreg _ hc hi, .inr (.inr ⟨_, rfl⟩)⟩
  simp [memWriteLines, frame]

@[simp] theorem lawful_memRead8Lines {reg : Cfg → RegAddr} (hreg : NamesReg i reg) :
    LawfulLines i (memRead8Lines reg) := by
  have frame := lawful_lineBusWrite (i := i) (frame := fun s => readFrame8 s.cfg (reg s.cfg)) fun s hc hi =>
    ⟨_, hreg _ hc hi, .inl rfl⟩
  simp [memRead8Lines, frame]

@[simp] theorem lawful_memRead16Lines {reg : Cfg → RegAddr} (hreg : NamesReg i reg) :
    LawfulLines i (memRead16Lines reg) := by
  have frame := lawful_lineBusWrite (i := i) (frame := fun s => readFrame16 s.cfg (reg s.cfg)) fun s hc hi =>
    ⟨_, hreg _ hc hi, .inr (.inl rfl)⟩
  simp [memRead16Lines, frame]

/-! The five named registers are register addresses in every well-formed record (R11). -/

@[simp] theorem namesReg_control : NamesReg i (·.regControl) := fun _ ⟨_, _, _, _, _, h, _⟩ _ => h

@[simp] theorem namesReg_timing : NamesReg i (·.regTiming) := fun _ ⟨_, _, _, _, _, _, h, _⟩ _ => h

@[simp] theorem namesReg_id : NamesReg i (·.regId) := fun _ ⟨_, _, _, _, _, _, _, h, _⟩ _ => h

@[simp] theorem namesReg_ch0Low : NamesReg i (·.regCh0Low) := fun _ ⟨_, _, _, _, _, _, _, _, h, _⟩ _ => h

@[simp] theorem namesReg_ch1Low : NamesReg i (·.regCh1Low) := fun _ ⟨_, _, _, _, _, _, _, _, _, h, _⟩ _ => h

/-- The register operand of a well-formed operation is a register address (R50). -/
theorem namesReg_operand {reg : RegAddr} (h : ∀ c, i.wf c = decide (c.IsReg reg)) : NamesReg i fun _ => reg :=
  fun c _ hi => of_decide_eq_true (h c ▸ hi)

end

/-- Every line of every operation is lawful. -/
theorem lawfulLines_linesOf (i : Instr) : LawfulLines i (linesOf i) := by
  cases i with
  | wrreg reg v => simp [linesOf, wrregLines, namesReg_operand, Instr.wf]
  | rdreg reg => simp [linesOf, rdregLines, namesReg_operand, Instr.wf]
  | rdreg16 reg => simp [linesOf, rdreg16Lines, namesReg_operand, Instr.wf]
  | enable => simp [linesOf, enableLines, powerUpLines]
  | disable => simp [linesOf, disableLines, powerDownLines]
  | init => simp [linesOf, initLines, powerUpLines, powerDownLines]
  | setit it => simp [linesOf, setitLines, powerUpLines, powerDownLines]
  | setgain g => simp [linesOf, setgainLines, powerUpLines, powerDownLines]
  | rdchan => simp [linesOf, rdchanLines, powerUpLines, powerDownLines]
  | lux raw0 raw1 => simp [linesOf, luxLines]
  | frameWrite reg v => simp [linesOf, frameWriteLines, namesReg_operand, Instr.wf]
  | frameRead8 reg => simp [linesOf, frameRead8Lines, namesReg_operand, Instr.wf]
  | frameRead16 reg => simp [linesOf, frameRead16Lines, namesReg_operand, Instr.wf]

/-- The last line of every operation ends it (R26). -/
theorem linesOf_getLast? (i : Instr) : ∃ f, (linesOf i).getLast? = some (.act f) ∧ ∀ s, (f s).run = none := by
  cases i <;> exact ⟨_, rfl, fun _ => rfl⟩

theorem linesOf_length_pos (i : Instr) : 0 < (linesOf i).length := by
  cases i <;> exact Nat.succ_pos _

/-! ### Where the lines lead -/

namespace State

variable {s : State} {i : Instr} {k : Nat}

theorem StandsAt.of_run_none (h : s.run = none) : s.StandsAt i k := fun r hr => by
  rw [h] at hr
  cases hr

theorem StandsAt.advance (h : s.StandsAt i k) : s.advance.StandsAt i (k + 1) := by
  intro r hr
  obtain ⟨r', hr', rfl⟩ := Option.map_eq_some_iff.mp hr
  obtain ⟨hop, hseq⟩ := h r' hr'
  exact ⟨hop, congrArg (· + 1) hseq⟩

theorem StandsAt.blocked_looked (h : s.StandsAt i k) : s.blocked.looked.StandsAt i k := by
  intro r hr
  obtain ⟨r', hr', rfl⟩ := Option.map_eq_some_iff.mp hr
  exact h r' hr'

theorem complete_cfg (s : State) (x : Call) : (s.complete x).cfg = s.cfg := by cases x <;> rfl

theorem complete_addr (s : State) (x : Call) : (s.complete x).addr = s.addr := by cases x <;> rfl

theorem complete_run (s : State) (x : Call) : (s.complete x).run = s.run := by cases x <;> rfl

theorem StandsAt.endCall (h : s.StandsAt i k) (x : Call) (ret : Answer → Locals → Locals) :
    (s.endCall x ret).StandsAt i (k + 1) := by
  have hx : (s.complete x).StandsAt i k := fun r hr => h r (complete_run s x ▸ hr)
  exact StandsAt.advance (((OwnAct.refl _).setLoc _).standsAt i k hx)

end State

/-- Lines whose last one ends the operation lead to its end or stop at one of them: a line that waits is not passed. -/
theorem runLines_standsAt {i : Instr} {f : State → State} (hend : ∀ s, (f s).run = none) (ls : List Line)
    (hlast : ls.getLast? = some (.act f)) (hl : LawfulLines i ls) (s : State) (k : Nat) (h : s.StandsAt i k) :
    ∃ j < k + ls.length, (runLines ls s).StandsAt i j := by
  induction ls generalizing s k with
  | nil => cases hlast
  | cons l ls ih =>
    have next (hne : ls ≠ []) (u : State) (hu : u.StandsAt i (k + 1)) :
        ∃ j < k + (l :: ls).length, (runLines ls u).StandsAt i j := by
      have hlast' : ls.getLast? = some (.act f) := by
        obtain ⟨l', ls', rfl⟩ := List.exists_cons_of_ne_nil hne
        rwa [List.getLast?_cons_cons] at hlast
      obtain ⟨j, hj, hs⟩ := ih hlast' (fun l hl' => hl l (.tail _ hl')) u (k + 1) hu
      exact ⟨j, by rw [List.length_cons]; omega, hs⟩
    have hlen : k < k + (l :: ls).length := by simp
    cases l with
    | act g =>
      rw [runLines_act]
      by_cases hne : ls = []
      · subst hne
        obtain rfl : g = f := by simpa using hlast
        exact ⟨k, hlen, .of_run_none (congrArg (Option.map _) (hend s))⟩
      · exact next hne _ ((hl _ (.head _) s).standsAt i k h).advance
    | call c ret =>
      have hne : ls ≠ [] := by
        rintro rfl
        simp at hlast
      rw [runLines_call]
      split
      · exact next hne _ h.advance
      · split
        · exact next hne _ (h.endCall _ ret)
        · exact ⟨k, hlen, h.blocked_looked⟩

/-! ### The invariant -/

/-- The part of the invariant that every single line keeps: the parameters are legal, `i` is one of the machine's
operations, `ADDR` fits, and the trace is legal. -/
def State.LegalFor (i : Instr) (s : State) : Prop :=
  s.cfg.WF ∧ i.wf s.cfg = true ∧ s.addr < 2 ^ s.cfg.addrW ∧ ∀ e ∈ s.trace, e.Legal s.cfg s.addr

namespace State

variable {s t : State} {i : Instr}

theorem LegalFor.of_ownAct (h : s.LegalFor i) (ha : OwnAct s t) : t.LegalFor i := by
  obtain ⟨hc, hi, haddr, htr⟩ := h
  unfold LegalFor
  rw [ha.cfg, ha.addr]
  refine ⟨hc, hi, haddr, ?_⟩
  rcases ha.trace with ht | ⟨d, ht⟩ <;> rw [ht]
  · exact htr
  · exact List.forall_mem_append.mpr ⟨htr, by simp [Event.Legal]⟩

/-- A read of one or two bytes is answered with exactly that many (R52). -/
theorem length_of_bytesRead {a : Answer} {n : Nat} (hn : n = 1 ∨ n = 2) {bs : List Byte}
    (h : bytesRead a n = some bs) : bs.length = n := by
  unfold bytesRead at h
  split at h
  · cases h
    rcases hn with rfl | rfl <;> rfl
  · cases h

/-- An answered legal call adds a legal event (R21, R52, R59). -/
theorem LegalFor.complete (h : s.LegalFor i) {x : Call} (hx : x.Legal s.cfg) : (s.complete x).LegalFor i := by
  obtain ⟨hc, hi, haddr, htr⟩ := h
  unfold LegalFor
  rw [complete_cfg, complete_addr]
  refine ⟨hc, hi, haddr, ?_⟩
  cases x with
  | busWrite f =>
    rw [complete_busWrite, afterBus_trace]
    exact List.forall_mem_append.mpr ⟨htr, List.forall_mem_singleton.mpr ⟨rfl, hx⟩⟩
  | busRead n =>
    rw [complete_busRead, afterBus_trace]
    exact List.forall_mem_append.mpr
      ⟨htr, List.forall_mem_singleton.mpr ⟨rfl, hx, fun _ => length_of_bytesRead hx⟩⟩
  | delay d =>
    rw [complete_delay, delay_trace]
    exact List.forall_mem_append.mpr ⟨htr, List.forall_mem_singleton.mpr hx⟩

/-- What lawful lines keep. -/
theorem LegalFor.runLines (h : s.LegalFor i) {ls : List Line} (hl : LawfulLines i ls) :
    (runLines ls s).LegalFor i := by
  refine runLines_keeps (LegalFor i) ls ?act (fun _ h => h) ?call (fun _ h => h) s h
  case act =>
    intro f hf u hu
    exact hu.of_ownAct (t := f u) (hl _ hf u)
  case call =>
    intro c ret hc u x hx _ hu
    have ⟨hcfg, hi, _⟩ := hu
    exact hu.complete (hl _ hc u x hcfg hi hx)

end State

/-- An operation in flight at a line of its own, run on through its lines, keeps the invariant. -/
theorem inv_runLines_drop {s : State} {i : Instr} {k : Nat} (h : s.LegalFor i) (hs : s.StandsAt i k)
    (hk : k < (linesOf i).length) : (runLines ((linesOf i).drop k) s).Inv := by
  have hl : LawfulLines i ((linesOf i).drop k) := fun l hl => lawfulLines_linesOf i l (List.mem_of_mem_drop hl)
  obtain ⟨f, hlast, hend⟩ := linesOf_getLast? i
  have hlast : ((linesOf i).drop k).getLast? = some (.act f) := by rw [List.getLast?_drop, if_neg (by omega), hlast]
  obtain ⟨j, hj, hstands⟩ := runLines_standsAt hend _ hlast hl s k hs
  rw [List.length_drop] at hj
  obtain ⟨hc, hi, haddr, htr⟩ := h.runLines hl
  refine ⟨hc, haddr, fun r hr => ?_, htr⟩
  obtain ⟨rfl, rfl⟩ := hstands r hr
  exact ⟨hi, by omega⟩

/-- What a step that answers a next state did: it ran the lines of an operation from the one it stood at, or from the
first one of the operation its word decodes to; or it did nothing; or it refused. -/
theorem step_eq_next {s t : State} (h : step s = .next t) :
    (∃ r, s.run = some r ∧ r.seq < (linesOf r.op).length ∧ t = runLines ((linesOf r.op).drop r.seq) s)
      ∨ (s.run = none ∧ s.requests = [] ∧ t = s)
      ∨ ∃ w rest, s.run = none ∧ s.requests = w :: rest
          ∧ ((∃ i, decode s.cfg w = .ok i ∧ t = runLines (linesOf i) (State.accept { s with requests := rest } i))
            ∨ ((∃ e, decode s.cfg w = .error e) ∧ t = State.refuse { s with requests := rest })) := by
  cases hr : s.run with
  | some r =>
    by_cases hk : r.seq < (linesOf r.op).length
    · rw [step_of_busy hr hk] at h
      cases h
      exact .inl ⟨r, rfl, hk, rfl⟩
    · rw [step_of_no_such_line hr hk] at h
      cases h
  | none =>
    cases hq : s.requests with
    | nil =>
      rw [step_of_no_request hr hq] at h
      cases h
      exact .inr (.inl ⟨rfl, rfl, rfl⟩)
    | cons w rest =>
      refine .inr (.inr ⟨w, rest, rfl, rfl, ?_⟩)
      cases hw : decode s.cfg w with
      | ok i =>
        rw [step_of_decode_ok hr hq hw, exec_eq_runLines] at h
        cases h
        exact .inl ⟨i, rfl, rfl⟩
      | error e =>
        by_cases he : e = .notAFrame
        · rw [step_of_notAFrame hr hq (he ▸ hw)] at h
          cases h
        · rw [step_of_decode_error hr hq hw he] at h
          cases h
          exact .inr ⟨⟨e, rfl⟩, rfl⟩

/-- Settles O31: what a step runs is an operation of the machine at a line of its own, and its lines are lawful. -/
theorem stepKeepsTheInvariant : Obligations.StepKeepsTheInvariant := by
  intro s t hinv hstep
  obtain ⟨hc, haddr, hrun, htr⟩ := hinv
  obtain ⟨r, hr, hk, rfl⟩ | ⟨-, -, rfl⟩ | ⟨w, rest, -, -, ⟨i, hw, rfl⟩ | ⟨-, rfl⟩⟩ := step_eq_next hstep
  · obtain ⟨hi, -⟩ := hrun r hr
    refine inv_runLines_drop ⟨hc, hi, haddr, htr⟩ (fun r' hr' => ?_) hk
    cases hr.symm.trans hr'
    exact ⟨rfl, rfl⟩
  · exact ⟨hc, haddr, hrun, htr⟩
  · have start : (State.accept { s with requests := rest } i).StandsAt i 0 := by
      rintro _ ⟨⟩
      exact ⟨rfl, rfl⟩
    have legal : (State.accept { s with requests := rest } i).LegalFor i := ⟨hc, wf_of_decode hc hw, haddr, htr⟩
    exact inv_runLines_drop legal start (linesOf_length_pos i)
  · exact ⟨hc, haddr, fun _ hr => (nomatch hr), htr⟩

end Sys2Proof.Machine

/-! ### The past does not matter (R9, R39)

Putting a past before the trace and the responses of a state commutes with everything the machine does: each act, each
answered call, each line, each step. -/

namespace Sys2Proof.Machine

/-- `s` with the events `tr` and the responses `rs` before its own. -/
def State.withPast (s : State) (tr : List Event) (rs : List Response) : State :=
  { s with trace := tr ++ s.trace, responses := rs ++ s.responses }

/-- A line that acts on a state with a past as on the state without it. -/
def Line.IgnoresPast : Line → Prop
  | .act f => ∀ s tr rs, f (s.withPast tr rs) = (f s).withPast tr rs
  | .call c _ => ∀ s tr rs, c (s.withPast tr rs) = c s

/-- Lines that each ignore the past. -/
def IgnorePast (ls : List Line) : Prop := ∀ l ∈ ls, l.IgnoresPast

namespace State

variable (s : State) (tr : List Event) (rs : List Response)

@[simp] theorem withPast_cfg : (s.withPast tr rs).cfg = s.cfg := (rfl)

@[simp] theorem withPast_loc : (s.withPast tr rs).loc = s.loc := (rfl)

@[simp] theorem withPast_readG : (s.withPast tr rs).readG = s.readG := (rfl)

@[simp] theorem withPast_readIT : (s.withPast tr rs).readIT = s.readIT := (rfl)

@[simp] theorem withPast_readPKG : (s.withPast tr rs).readPKG = s.readPKG := (rfl)

theorem withPast_emit (e : Event) : (s.withPast tr rs).emit e = (s.emit e).withPast tr rs := by
  simp [emit, withPast]

@[simp] theorem withPast_diag (d : Diag) : (s.withPast tr rs).diag d = (s.diag d).withPast tr rs :=
  s.withPast_emit tr rs _

@[simp] theorem withPast_setLoc (l : Locals) : (s.withPast tr rs).setLoc l = (s.setLoc l).withPast tr rs := rfl

theorem withPast_respond (st : Status) (d : BitVec 32) :
    (s.withPast tr rs).respond st d = (s.respond st d).withPast tr rs := by
  simp [respond, withPast]

theorem withPast_refuse : (s.withPast tr rs).refuse = s.refuse.withPast tr rs := s.withPast_respond tr rs _ _

theorem withPast_checkPower (c : Byte) : (s.withPast tr rs).checkPower c = (s.checkPower c).withPast tr rs := by
  unfold checkPower
  split
  · exact s.withPast_diag tr rs _
  · rfl

theorem withPast_checkPackage (v : BitVec 2) :
    (s.withPast tr rs).checkPackage v = (s.checkPackage v).withPast tr rs := by
  unfold checkPackage
  rw [withPast_cfg]
  split
  · exact s.withPast_diag tr rs _
  · rfl

/-- The answer of a call does not depend on the past, and its event comes after the past. -/
theorem withPast_complete (x : Call) : (s.withPast tr rs).complete x = (s.complete x).withPast tr rs := by
  cases x with
  | busWrite f => exact s.answered.withPast_emit tr rs _
  | busRead n => exact s.answered.withPast_emit tr rs _
  | delay d => exact s.looked.withPast_emit tr rs _

theorem withPast_endCall (x : Call) (ret : Answer → Locals → Locals) :
    (s.withPast tr rs).endCall x ret = (s.endCall x ret).withPast tr rs := by
  unfold endCall
  rw [withPast_complete]
  rfl

end State

/-! The lines that the operations share. -/

@[simp] theorem ignorePast_nil : IgnorePast [] := nofun

@[simp] theorem ignorePast_cons {l : Line} {ls : List Line} :
    IgnorePast (l :: ls) ↔ l.IgnoresPast ∧ IgnorePast ls := List.forall_mem_cons

@[simp] theorem ignorePast_append {ls ls' : List Line} :
    IgnorePast (ls ++ ls') ↔ IgnorePast ls ∧ IgnorePast ls' := List.forall_mem_append

@[simp] theorem ignoresPast_lineSet {f : State → Locals} (h : ∀ s tr rs, f (s.withPast tr rs) = f s) :
    (lineSet f).IgnoresPast := fun s tr rs => congrArg (s.setLoc · |>.withPast tr rs) (h s tr rs)

@[simp] theorem ignoresPast_lineReadG : lineReadG.IgnoresPast := ignoresPast_lineSet fun _ _ _ => rfl

@[simp] theorem ignoresPast_lineReadIT : lineReadIT.IgnoresPast := ignoresPast_lineSet fun _ _ _ => rfl

@[simp] theorem ignoresPast_lineReadPKG : lineReadPKG.IgnoresPast := ignoresPast_lineSet fun _ _ _ => rfl

@[simp] theorem ignoresPast_lineRespond {st : State → Status} {d : State → BitVec 32}
    (hst : ∀ s tr rs, st (s.withPast tr rs) = st s) (hd : ∀ s tr rs, d (s.withPast tr rs) = d s) :
    (lineRespond st d).IgnoresPast := fun s tr rs => by
  dsimp only
  rw [hst, hd, State.withPast_respond]

@[simp] theorem ignoresPast_lineFrameDone : lineFrameDone.IgnoresPast := fun _ _ _ => rfl

@[simp] theorem ignoresPast_writeG {v : State → BitVec 1} (h : ∀ s tr rs, v (s.withPast tr rs) = v s) :
    (Line.act fun s => s.writeG (v s)).IgnoresPast := fun s tr rs =>
  congrArg (s.writeG · |>.withPast tr rs) (h s tr rs)

@[simp] theorem ignoresPast_writeIT {v : State → BitVec 2} (h : ∀ s tr rs, v (s.withPast tr rs) = v s) :
    (Line.act fun s => s.writeIT (v s)).IgnoresPast := fun s tr rs =>
  congrArg (s.writeIT · |>.withPast tr rs) (h s tr rs)

@[simp] theorem ignoresPast_writePKG {v : State → BitVec 2} (h : ∀ s tr rs, v (s.withPast tr rs) = v s) :
    (Line.act fun s => s.writePKG (v s)).IgnoresPast := fun s tr rs =>
  congrArg (s.writePKG · |>.withPast tr rs) (h s tr rs)

@[simp] theorem ignoresPast_checkPower {c : State → Byte} (h : ∀ s tr rs, c (s.withPast tr rs) = c s) :
    (Line.act fun s => s.checkPower (c s)).IgnoresPast := fun s tr rs => by
  dsimp only
  rw [h, State.withPast_checkPower]

@[simp] theorem ignoresPast_checkPackage {v : State → BitVec 2} (h : ∀ s tr rs, v (s.withPast tr rs) = v s) :
    (Line.act fun s => s.checkPackage (v s)).IgnoresPast := fun s tr rs => by
  dsimp only
  rw [h, State.withPast_checkPackage]

@[simp] theorem ignoresPast_lineDelay {d : State → Nat} (h : ∀ s tr rs, d (s.withPast tr rs) = d s) :
    (lineDelay d).IgnoresPast := fun s tr rs => congrArg (some <| Call.delay ·) (h s tr rs)

@[simp] theorem ignoresPast_lineBusWrite {frame : State → List Byte}
    (h : ∀ s tr rs, frame (s.withPast tr rs) = frame s) : (lineBusWrite frame).IgnoresPast :=
  fun s tr rs => congrArg (some <| Call.busWrite ·) (h s tr rs)

@[simp] theorem ignoresPast_lineByteRead : lineByteRead.IgnoresPast := fun _ _ _ => rfl

@[simp] theorem ignoresPast_lineWordRead : lineWordRead.IgnoresPast := fun _ _ _ => rfl

/-- A line that raises a diagnostic or not, as the local names say. -/
theorem ignoresPast_ite {p : Locals → Bool} {f g : State → State} (hf : (Line.act f).IgnoresPast)
    (hg : (Line.act g).IgnoresPast) : (Line.act fun s => if p s.loc then f s else g s).IgnoresPast := fun s tr rs => by
  dsimp only
  rw [State.withPast_loc]
  split
  · exact hf s tr rs
  · exact hg s tr rs

theorem ignoresPast_id : (Line.act fun s => s).IgnoresPast := fun _ _ _ => rfl

theorem ignoresPast_diag (d : Diag) : (Line.act fun s => s.diag d).IgnoresPast := fun s tr rs => s.withPast_diag tr rs d

@[simp] theorem ignoresPast_lineWriteFail : lineWriteFail.IgnoresPast :=
  ignoresPast_ite (p := (·.ok)) ignoresPast_id (ignoresPast_diag _)

@[simp] theorem ignoresPast_lineByteNoWrite : lineByteNoWrite.IgnoresPast :=
  ignoresPast_ite (p := (·.ok)) ignoresPast_id fun s tr rs => by simp

@[simp] theorem ignoresPast_lineByteNoRead : lineByteNoRead.IgnoresPast :=
  ignoresPast_ite (p := fun l => l.ok && l.byte.isNone) (ignoresPast_diag _) ignoresPast_id

@[simp] theorem ignoresPast_lineWordNoWrite : lineWordNoWrite.IgnoresPast :=
  ignoresPast_ite (p := (·.ok)) ignoresPast_id fun s tr rs => by simp

@[simp] theorem ignoresPast_lineWordNoRead : lineWordNoRead.IgnoresPast :=
  ignoresPast_ite (p := fun l => l.ok && l.word.isNone) (ignoresPast_diag _) ignoresPast_id

@[simp] theorem ignorePast_memWriteLines {reg : Cfg → RegAddr} {v : State → Byte}
    (h : ∀ s tr rs, v (s.withPast tr rs) = v s) : IgnorePast (memWriteLines reg v) := by
  simp [memWriteLines, h]

@[simp] theorem ignorePast_memRead8Lines (reg : Cfg → RegAddr) : IgnorePast (memRead8Lines reg) := by
  simp [memRead8Lines]

@[simp] theorem ignorePast_memRead16Lines (reg : Cfg → RegAddr) : IgnorePast (memRead16Lines reg) := by
  simp [memRead16Lines]

/-- No line of any operation looks at the past. -/
theorem ignorePast_linesOf (i : Instr) : IgnorePast (linesOf i) := by
  cases i with
  | wrreg reg v => simp [linesOf, wrregLines]
  | rdreg reg => simp [linesOf, rdregLines]
  | rdreg16 reg => simp [linesOf, rdreg16Lines]
  | enable => simp [linesOf, enableLines, powerUpLines]
  | disable => simp [linesOf, disableLines, powerDownLines]
  | init => simp [linesOf, initLines, powerUpLines, powerDownLines]
  | setit it => simp [linesOf, setitLines, powerUpLines, powerDownLines]
  | setgain g => simp [linesOf, setgainLines, powerUpLines, powerDownLines]
  | rdchan => simp [linesOf, rdchanLines, powerUpLines, powerDownLines]
  | lux raw0 raw1 => simp [linesOf, luxLines]
  | frameWrite reg v => simp [linesOf, frameWriteLines]
  | frameRead8 reg => simp [linesOf, frameRead8Lines]
  | frameRead16 reg => simp [linesOf, frameRead16Lines]

/-- Lines that ignore the past lead from a state with a past to where they lead without it, with that past. -/
theorem runLines_withPast {ls : List Line} (h : IgnorePast ls) (s : State) (tr : List Event) (rs : List Response) :
    runLines ls (s.withPast tr rs) = (runLines ls s).withPast tr rs := by
  induction ls generalizing s with
  | nil => rfl
  | cons l ls ih =>
    obtain ⟨hl, hls⟩ := ignorePast_cons.mp h
    have ih := ih hls
    cases l with
    | act f =>
      rw [runLines_act, runLines_act, hl s tr rs]
      exact ih (f s).advance
    | call c ret =>
      rw [runLines_call, runLines_call, hl s tr rs]
      have looks : (s.withPast tr rs).returnsNow = s.returnsNow := rfl
      cases c s with
      | none => exact ih s.advance
      | some x =>
        dsimp only
        rw [looks, State.withPast_endCall]
        split
        · exact ih (s.endCall x ret)
        · rfl

theorem step_withPast (s : State) (tr : List Event) (rs : List Response) :
    step (s.withPast tr rs) = andThen (step s) fun t => .next (t.withPast tr rs) := by
  cases hr : s.run with
  | some r =>
    by_cases hk : r.seq < (linesOf r.op).length
    · have rest : IgnorePast ((linesOf r.op).drop r.seq) := fun l hl =>
        ignorePast_linesOf r.op l (List.mem_of_mem_drop hl)
      rw [step_of_busy hr hk, step_of_busy (s := s.withPast tr rs) hr hk, runLines_withPast rest, andThen_next]
    · rw [step_of_no_such_line hr hk, step_of_no_such_line (s := s.withPast tr rs) hr hk, andThen_fault]
  | none =>
    cases hq : s.requests with
    | nil => rw [step_of_no_request hr hq, step_of_no_request (s := s.withPast tr rs) hr hq, andThen_next]
    | cons w rest =>
      cases hw : decode s.cfg w with
      | ok i =>
        rw [step_of_decode_ok hr hq hw, step_of_decode_ok (s := s.withPast tr rs) hr hq hw, exec_eq_runLines,
          exec_eq_runLines, andThen_next, ← runLines_withPast (ignorePast_linesOf i)]
        rfl
      | error e =>
        by_cases he : e = .notAFrame
        · subst he
          rw [step_of_notAFrame hr hq hw, step_of_notAFrame (s := s.withPast tr rs) hr hq hw, andThen_refused]
        · rw [step_of_decode_error hr hq hw he, step_of_decode_error (s := s.withPast tr rs) hr hq hw he, andThen_next,
            ← State.withPast_refuse]
          rfl

/-- Settles O41: a step from a state is the step from the same state without a past, with the past put before it. -/
theorem historyDoesNotInfluenceTheMachine : Obligations.HistoryDoesNotInfluenceTheMachine := by
  intro s t tr rs hstep
  have split_past (tr : List Event) (rs : List Response) :
      { s with trace := tr, responses := rs } = State.withPast { s with trace := [], responses := [] } tr rs := by
    simp [State.withPast]
  have hs : s = State.withPast { s with trace := [], responses := [] } s.trace s.responses :=
    split_past s.trace s.responses
  rw [hs, step_withPast] at hstep
  obtain ⟨u, hu, hut⟩ := andThen_eq_next hstep
  cases hut
  refine ⟨u.trace, u.responses, rfl, rfl, ?_⟩
  rw [split_past, step_withPast, hu, andThen_next]
  rfl

end Sys2Proof.Machine

/-! ### The lines of an operation do what it does as one function (R26)

Each inlined access leads from midway to midway where its calls are answered, so the lines of an operation are rewritten
one access after the other; `Returns` says of each what is left of the answers. -/

namespace Sys2Proof.Machine

namespace State

theorem Returns.one {s : State} {n : Nat} (h : s.Returns (n + 1)) : s.Returns 1 := h.mono (Nat.le_add_left 1 n)

theorem Returns.powerUp {s : State} {n : Nat} (h : s.Returns (n + 1)) : s.powerUp.2.Returns n := h.memWrite _ _

theorem powerUp_cfg (s : State) : s.powerUp.2.cfg = s.cfg := s.memWrite_cfg _ _

end State

section
variable {s : State} (op : Instr) (k : Nat) (l : Locals) (ls : List Line)

/-- The inlined power-up write, answered, is the power-up write (R135). -/
theorem runLines_powerUpLines (h : s.Returns 1) :
    runLines (powerUpLines ++ ls) (s.midway op k l)
      = runLines ls (s.powerUp.2.midway op (k + 2) { l with ok := s.powerUp.1 }) :=
  runLines_memWriteLines s op k l ls _ _ h

/-- The inlined power-down write, answered, is the power-down write (R135). -/
theorem runLines_powerDownLines (h : s.Returns 1) :
    runLines (powerDownLines ++ ls) (s.midway op k l)
      = runLines ls (s.powerDown.2.midway op (k + 2) { l with ok := s.powerDown.1 }) :=
  runLines_memWriteLines s op k l ls _ _ h

end

section
variable {s : State}

/-- INIT (R132): a write, three reads with what follows each, a write. -/
theorem runLines_initLines (h : s.Returns 8) : runLines initLines (s.accept .init) = performInit s := by
  simp only [initLines, List.append_assoc, List.cons_append, List.nil_append, State.accept_eq_midway]
  have hc (reg c) := (h.powerUp.memRead8 reg).checkPower c
  have hi (reg c reg' i) := ((hc reg c).memRead8 reg').writePKG i
  rw [runLines_powerUpLines _ _ _ _ h.one,
    runLines_memRead8Lines _ _ _ _ _ _ h.powerUp.read, runLines_act, State.midway_checkPower, State.midway_advance,
    runLines_memRead8Lines _ _ _ _ _ _ (hc _ _).read, runLines_act, State.midway_writePKG, State.midway_advance,
    runLines_memRead8Lines _ _ _ _ _ _ (hi _ _ _ _).read, runLines_act, State.midway_writeG, State.midway_advance,
    runLines_act, State.midway_writeIT, State.midway_advance,
    runLines_powerDownLines _ _ _ _ ((((hi _ _ _ _).memRead8 _).writeG _).writeIT _), runLines_lineRespond]
  simp only [performInit, State.midway_loc]

/-- The three inlined writes of SETIT and SETGAIN, answered, are the bracketed TIMING write (R135). -/
theorem runLines_bracketedTiming (op : Instr) (k : Nat) (l : Locals) (ls : List Line) {v : State → Byte} {g : BitVec 1}
    {it : BitVec 2} (hv : ∀ t : State, t.loc.g = l.g → t.loc.it = l.it → v t = timing g it) (h : s.Returns 3) :
    ∃ l', runLines (powerUpLines ++ (memWriteLines (·.regTiming) v ++ (powerDownLines ++ ls))) (s.midway op k l)
      = runLines ls ((s.bracketedTiming g it).midway op (k + 6) l') := by
  rw [runLines_powerUpLines _ _ _ _ h.one, runLines_memWriteLines _ _ _ _ _ _ _ h.powerUp.one,
    runLines_powerDownLines _ _ _ _ (h.powerUp.memWrite _ _), hv _ rfl rfl]
  exact ⟨_, rfl⟩

/-- SETIT (R133): the read of `G`, the bracketed write, the shadow. -/
theorem runLines_setitLines (it : BitVec 2) (h : s.Returns 3) :
    runLines (setitLines it) (s.accept (.setit it)) = performSetit it s := by
  simp only [setitLines, List.append_assoc, List.cons_append, List.nil_append, State.accept_eq_midway, lineReadG]
  obtain ⟨l, hl⟩ := runLines_bracketedTiming (.setit it) 1 { g := s.g }
    [.act fun s => s.writeIT it, lineRespond (fun _ => .ok) fun _ => 0] (v := fun t => timing t.loc.g it)
    (fun t hg _ => by rw [hg]) h
  rw [runLines_act, State.midway_writeIT, State.midway_advance, runLines_lineRespond] at hl
  exact hl

/-- SETGAIN (R134): the read of `IT`, the bracketed write, the shadow. -/
theorem runLines_setgainLines (g : BitVec 1) (h : s.Returns 3) :
    runLines (setgainLines g) (s.accept (.setgain g)) = performSetgain g s := by
  simp only [setgainLines, List.append_assoc, List.cons_append, List.nil_append, State.accept_eq_midway, lineReadIT]
  obtain ⟨l, hl⟩ := runLines_bracketedTiming (.setgain g) 1 { it := s.it }
    [.act fun s => s.writeG g, lineRespond (fun _ => .ok) fun _ => 0] (v := fun t => timing g t.loc.it)
    (fun t _ hit => by rw [hit]) h
  rw [runLines_act, State.midway_writeG, State.midway_advance, runLines_lineRespond] at hl
  exact hl

/-- RDCHAN (R150): the read of `IT`, a write, the delay, two reads, a write. -/
theorem runLines_rdchanLines (h : s.Returns 7) : runLines rdchanLines (s.accept .rdchan) = performRdchan s := by
  simp only [rdchanLines, List.append_assoc, List.cons_append, List.nil_append, State.accept_eq_midway, lineReadIT]
  have hd (d) := h.powerUp.delay d
  rw [runLines_lineSet, runLines_powerUpLines _ _ _ _ h.one, runLines_lineDelay _ _ _ _ _ _ h.powerUp.now,
    runLines_memRead16Lines _ _ _ _ _ _ (hd _).read, runLines_lineSet,
    runLines_memRead16Lines _ _ _ _ _ _ ((hd _).memRead16 _).read, runLines_lineSet,
    runLines_powerDownLines _ _ _ _ (((hd _).memRead16 _).memRead16 _), runLines_lineRespond]
  simp only [performRdchan, State.midway_loc, State.midway_cfg, State.midway_it, State.powerUp_cfg, State.readIT_eq]

/-- LUX (R160) makes no call. -/
theorem runLines_luxLines (raw0 raw1 : Word16) :
    runLines (luxLines raw0 raw1) (s.accept (.lux raw0 raw1)) = performLux raw0 raw1 s := by
  simp only [luxLines, State.accept_eq_midway, lineReadIT, lineReadG, lineReadPKG, runLines_lineSet, runLines_act,
    State.midway_checkPackage, State.midway_advance, runLines_lineRespond, State.midway_loc, State.midway_cfg,
    State.readIT_eq, State.readG_eq, State.readPKG_eq, State.midway_it, State.midway_g, State.midway_pkg,
    State.checkPackage_cfg, performLux, luxOf]

theorem runLines_linesOf_eq_perform (i : Instr) (h : s.Returns (waitBound i)) :
    runLines (linesOf i) (s.accept i) = perform i s := by
  rw [State.accept_eq_midway]
  cases i with
  | wrreg reg v => rw [linesOf, wrregLines, runLines_memWriteLines _ _ _ _ _ _ _ h]; rfl
  | rdreg reg => rw [linesOf, rdregLines, runLines_memRead8Lines _ _ _ _ _ _ (State.Returns.read h)]; rfl
  | rdreg16 reg => rw [linesOf, rdreg16Lines, runLines_memRead16Lines _ _ _ _ _ _ (State.Returns.read h)]; rfl
  | enable => rw [linesOf, enableLines, runLines_powerUpLines _ _ _ _ h]; rfl
  | disable => rw [linesOf, disableLines, runLines_powerDownLines _ _ _ _ h]; rfl
  | init => exact runLines_initLines h
  | setit it => exact runLines_setitLines it h
  | setgain g => exact runLines_setgainLines g h
  | rdchan => exact runLines_rdchanLines h
  | lux raw0 raw1 => exact runLines_luxLines raw0 raw1
  | frameWrite reg v => rw [linesOf, frameWriteLines, runLines_memWriteLines _ _ _ _ _ _ _ h]; rfl
  | frameRead8 reg => rw [linesOf, frameRead8Lines, runLines_memRead8Lines _ _ _ _ _ _ (State.Returns.read h)]; rfl
  | frameRead16 reg =>
    rw [linesOf, frameRead16Lines, runLines_memRead16Lines _ _ _ _ _ _ (State.Returns.read h)]; rfl

end

theorem exec_eq_perform {i : Instr} {s : State} (h : s.Returns (waitBound i)) : exec i s = .next (perform i s) := by
  rw [exec_eq_runLines, runLines_linesOf_eq_perform i h]

/-- Settles O38: the lines of each operation, rewritten access by access, are the operation. -/
theorem sequencerRefinesTheOperations : Obligations.SequencerRefinesTheOperations := fun _ _ => exec_eq_perform

end Sys2Proof.Machine

/-! ### What INIT leaves (R25, R132, R222) -/

namespace Sys2Proof.Machine

/-- Everything INIT does when its calls are answered (R132): the first call of the second read is the `k1`-th from `s`
on, that of the third the `k2`-th, and the last write is the `k3`-th. -/
theorem performInit_eq (s : State) (k1 k2 k3 : Nat) (h1 : k1 = 1 + s.readCalls 1) (h2 : k2 = k1 + s.readCalls k1)
    (h3 : k3 = k2 + s.readCalls k2) :
    performInit s = { s.afterRequest (k3 + 1)
        (writeTrace s.addr (writeFrame s.cfg s.cfg.regControl s.cfg.ctrlOn) (s.answerAt 0).ok
          ++ s.readTrace 1 (readFrame8 s.cfg s.cfg.regControl) 1
          ++ (if (byteOf (s.readData 1 1)).getLsbD 0 then [] else [.diag .initPower])
          ++ s.readTrace k1 (readFrame8 s.cfg s.cfg.regId) 1
          ++ s.readTrace k2 (readFrame8 s.cfg s.cfg.regTiming) 1
          ++ writeTrace s.addr (writeFrame s.cfg s.cfg.regControl s.cfg.ctrlOff) (s.answerAt k3).ok)
        .ok 0 with
      pkg := pkgField (byteOf (s.readData k1 1)), pkgWritten := true
      g := gainField (byteOf (s.readData k2 1)), gWritten := true
      it := modeField (byteOf (s.readData k2 1)), itWritten := true } := by
  subst h1 h2 h3
  simp only [performInit, State.powerUp_eq, State.memRead8_eq, State.checkPower_eq, State.powerDown_eq,
    orZero_map_byteOf, State.writePKG_afterBus, State.writeG_afterBus, State.writeIT_afterBus,
    State.writePKG_cfg, State.writePKG_addr, State.writeG_cfg, State.writeG_addr, State.writeIT_cfg, State.writeIT_addr,
    State.writePKG_answerAt, State.writeG_answerAt, State.writeIT_answerAt, State.writePKG_readData,
    State.writePKG_readCalls, State.writePKG_readTrace,
    State.afterBus_afterBus, State.afterBus_answerAt, State.afterBus_addr, State.afterBus_cfg, State.afterBus_readData,
    State.afterBus_readCalls, State.afterBus_readTrace, Nat.add_zero]
  rfl


/-- INIT where its calls are answered writes all three registers, whatever the bus answered (R25). -/
theorem performInit_allWritten (s : State) : (performInit s).AllWritten := by
  rw [performInit_eq s _ _ _ rfl rfl rfl]
  exact ⟨rfl, rfl, rfl⟩

theorem performInit_forgets (s : State) (g : BitVec 1) (it pkg : BitVec 2) (gw iw pw : Bool) :
    performInit { s with g := g, it := it, pkg := pkg, gWritten := gw, itWritten := iw, pkgWritten := pw }
      = performInit s := by
  rw [performInit_eq s _ _ _ rfl rfl rfl, performInit_eq _ _ _ _ rfl rfl rfl]
  rfl

theorem exec_init {s : State} (h : s.Returns 8) : exec .init s = .next (performInit s) := exec_eq_perform h

/-- Settles O45: no register stands in what INIT leaves. -/
theorem initForgetsWhatTheRegistersHeld : Obligations.InitForgetsWhatTheRegistersHeld := by
  intro s g it pkg gw iw pw h
  rw [exec_init h, ← performInit_forgets s g it pkg gw iw pw]
  exact exec_init h

end Sys2Proof.Machine

/-! ### What an operation sees and what it writes (R21 to R25)

`SameView` and `Alike` say which states an operation cannot tell apart, `Frame` which registers it may write. An act of
an operation is held to both once, and `Pseudocode` says how acts and calls make up the lines of an operation, so that
each fact about all operations is one induction over lines with three cases. -/

namespace Sys2Proof.Machine

/-- What the operation `i` can see of a state: the parameters, its local names, and the registers it reads (R25). -/
structure SameView (i : Instr) (s t : State) : Prop where
  cfg : s.cfg = t.cfg
  loc : s.loc = t.loc
  g : i.readsG = true → s.g = t.g
  it : i.readsIT = true → s.it = t.it
  pkg : i.readsPKG = true → s.pkg = t.pkg

/-- A value that the operation `i` computes from what it can see. -/
def SeenBy {α : Type} (i : Instr) (v : State → α) : Prop := ∀ s t, SameView i s t → v s = v t

/-- The same state but for the registers that `i` does not read, and for which registers have been written. -/
structure Alike (i : Instr) (s t : State) : Prop where
  cfg : s.cfg = t.cfg
  addr : s.addr = t.addr
  run : s.run = t.run
  requests : s.requests = t.requests
  answers : s.answers = t.answers
  calls : s.calls = t.calls
  returns : s.returns = t.returns
  looks : s.looks = t.looks
  trace : s.trace = t.trace
  responses : s.responses = t.responses
  g : i.readsG = true → s.g = t.g
  it : i.readsIT = true → s.it = t.it
  pkg : i.readsPKG = true → s.pkg = t.pkg

/-- What the operation `i` may write of the parameters, the address and the registers (R21 to R25): only its own
registers, and a written register stays one. -/
structure Frame (i : Instr) (s t : State) : Prop where
  cfg : t.cfg = s.cfg
  addr : t.addr = s.addr
  pkg : i ≠ .init → t.pkg = s.pkg ∧ t.pkgWritten = s.pkgWritten
  it : i ≠ .init → (∀ it, i ≠ .setit it) → t.it = s.it ∧ t.itWritten = s.itWritten
  g : i ≠ .init → (∀ g, i ≠ .setgain g) → t.g = s.g ∧ t.gWritten = s.gWritten
  pkgWritten : s.pkgWritten = true → t.pkgWritten = true
  itWritten : s.itWritten = true → t.itWritten = true
  gWritten : s.gWritten = true → t.gWritten = true

/-- What an act of the operation `i` that does not end it may do: write the local names, the trace and the registers of
`i`. -/
structure InBody (i : Instr) (s t : State) : Prop extends Frame i s t where
  run : ∃ l, t.run = (s.setLoc l).run
  responses : t.responses = s.responses
  returns : t.returns = s.returns
  looks : t.looks = s.looks

/-- An act of the operation `i` that does not end it. -/
structure BodyAct (i : Instr) (f : State → State) : Prop where
  inBody : ∀ s, InBody i s (f s)
  alike : ∀ s t, Alike i s t → Alike i (f s) (f t)

/-- An act that ends the operation `i`. -/
structure EndAct (i : Instr) (f : State → State) : Prop where
  frame : ∀ s, Frame i s (f s)
  run : ∀ s, (f s).run = none
  alike : ∀ s t, Alike i s t → Alike i (f s) (f t)

/-- Lines that may stand at the end of the pseudocode of `i`: the last one ends the operation and no other does, and
which call a line makes is seen by `i`. -/
inductive Pseudocode (i : Instr) : List Line → Prop
  | last {f : State → State} (hf : EndAct i f) : Pseudocode i [.act f]
  | act {f : State → State} {ls : List Line} (hf : BodyAct i f) (hls : Pseudocode i ls) : Pseudocode i (.act f :: ls)
  | call {c : State → Option Call} {ret : Answer → Locals → Locals} {ls : List Line} (hc : SeenBy i c)
      (hls : Pseudocode i ls) : Pseudocode i (.call c ret :: ls)

/-! ### The steps of a line -/

section
variable {i : Instr} {s t u : State}

namespace State

theorem setLoc_loc (s : State) : s.setLoc s.loc = s := by
  have same : (s.run.map fun r => { r with loc := s.loc }) = s.run := by
    rw [loc]
    cases s.run <;> rfl
  rw [setLoc, same]

theorem loc_congr (h : s.run = t.run) : s.loc = t.loc := by rw [loc, loc, h]

theorem blocked_loc (s : State) : s.blocked.loc = s.loc := by
  rw [loc, loc, blocked_run]
  cases s.run <;> rfl

theorem Returns.congr {n : Nat} (h : s.Returns n) (hr : t.returns = s.returns) (hl : t.looks = s.looks) :
    t.Returns n := fun k hk => by
  rw [returnsAt, hr, hl]
  exact h k hk

theorem complete_returns (s : State) (x : Call) : (s.complete x).returns = s.returns.tail := by cases x <;> rfl

theorem complete_looks (s : State) (x : Call) : (s.complete x).looks = s.looks + 1 := by cases x <;> rfl

theorem Returns.endCall {n : Nat} (h : s.Returns (n + 1)) (x : Call) (ret : Answer → Locals → Locals) :
    (s.endCall x ret).Returns n :=
  h.looked.congr (s.complete_returns x) (s.complete_looks x)

end State

namespace Frame

theorem refl (s : State) : Frame i s s :=
  ⟨rfl, rfl, fun _ => ⟨rfl, rfl⟩, fun _ _ => ⟨rfl, rfl⟩, fun _ _ => ⟨rfl, rfl⟩, id, id, id⟩

theorem trans (h : Frame i s t) (h' : Frame i t u) : Frame i s u where
  cfg := h'.cfg.trans h.cfg
  addr := h'.addr.trans h.addr
  pkg hi := ⟨(h'.pkg hi).1.trans (h.pkg hi).1, (h'.pkg hi).2.trans (h.pkg hi).2⟩
  it hi hs := ⟨(h'.it hi hs).1.trans (h.it hi hs).1, (h'.it hi hs).2.trans (h.it hi hs).2⟩
  g hi hs := ⟨(h'.g hi hs).1.trans (h.g hi hs).1, (h'.g hi hs).2.trans (h.g hi hs).2⟩
  pkgWritten hw := h'.pkgWritten (h.pkgWritten hw)
  itWritten hw := h'.itWritten (h.itWritten hw)
  gWritten hw := h'.gWritten (h.gWritten hw)

theorem accept (s : State) : Frame i s (s.accept i) := { refl s with }

theorem advance (h : Frame i s t) : Frame i s t.advance := { h with }

theorem complete (s : State) (x : Call) : Frame i s (s.complete x) := by
  cases x <;> exact { refl s with }

theorem endCall (s : State) (x : Call) (ret : Answer → Locals → Locals) : Frame i s (s.endCall x ret) :=
  { complete s x with }

theorem blocked_looked (s : State) : Frame i s s.blocked.looked := { refl s with }

theorem allWritten (h : Frame i s t) (hs : s.AllWritten) : t.AllWritten := by
  obtain ⟨hg, hit, hpkg⟩ := hs
  exact ⟨h.gWritten hg, h.itWritten hit, h.pkgWritten hpkg⟩

end Frame

namespace Alike

theorem sameView (h : Alike i s t) : SameView i s t := ⟨h.cfg, State.loc_congr h.run, h.g, h.it, h.pkg⟩

theorem emit (h : Alike i s t) {e e' : Event} (he : e = e') : Alike i (s.emit e) (t.emit e') :=
  { h with trace := by simp [h.trace, he] }

theorem setLoc (h : Alike i s t) {l l' : Locals} (hl : l = l') : Alike i (s.setLoc l) (t.setLoc l') :=
  { h with run := by simp [h.run, hl] }

theorem advance (h : Alike i s t) : Alike i s.advance t.advance := { h with run := by simp [h.run] }

theorem looked (h : Alike i s t) : Alike i s.looked t.looked :=
  { h with returns := by simp [h.returns], looks := by simp [h.looks] }

theorem answered (h : Alike i s t) : Alike i s.answered t.answered :=
  { h.looked with answers := by simp [h.answers], calls := by simp [h.calls] }

theorem blocked (h : Alike i s t) : Alike i s.blocked t.blocked := { h with run := by simp [h.run] }

theorem nextAnswer (h : Alike i s t) : s.nextAnswer = t.nextAnswer := by
  rw [State.nextAnswer, State.nextAnswer, h.answers, h.calls]

theorem returnsNow (h : Alike i s t) : s.returnsNow = t.returnsNow := by
  rw [State.returnsNow, State.returnsNow, h.returns, h.looks]

theorem complete (h : Alike i s t) (x : Call) : Alike i (s.complete x) (t.complete x) := by
  cases x with
  | busWrite f => exact h.answered.emit (by rw [h.addr, h.nextAnswer])
  | busRead n => exact h.answered.emit (by rw [h.addr, h.nextAnswer])
  | delay d => exact h.looked.emit rfl

theorem endCall (h : Alike i s t) (x : Call) (ret : Answer → Locals → Locals) :
    Alike i (s.endCall x ret) (t.endCall x ret) :=
  ((h.complete x).setLoc (by rw [h.nextAnswer, h.sameView.loc])).advance

end Alike

end

/-! ### The acts of the operations -/

section
variable {i : Instr} {f g : State → State}

theorem InBody.refl (s : State) : InBody i s s :=
  { Frame.refl s with run := ⟨s.loc, by rw [s.setLoc_loc]⟩, responses := rfl, returns := rfl, looks := rfl }

namespace BodyAct

theorem nothing : BodyAct i fun s => s := ⟨InBody.refl, fun _ _ h => h⟩

theorem diag (d : Diag) : BodyAct i fun s => s.diag d where
  inBody s := { InBody.refl s with }
  alike _ _ h := h.emit rfl

/-- A write of the local names after an act. -/
theorem setLoc (hf : BodyAct i f) {l : State → Locals} (hl : SeenBy i l) : BodyAct i fun s => (f s).setLoc (l s) where
  inBody s := { hf.inBody s with
    run := by
      obtain ⟨l', hl'⟩ := (hf.inBody s).run
      exact ⟨l s, by simp [hl', Function.comp_def]⟩ }
  alike s t h := (hf.alike s t h).setLoc (hl s t h.sameView)

theorem ite {p : State → Prop} [∀ s, Decidable (p s)] (hp : SeenBy i p) (hf : BodyAct i f) (hg : BodyAct i g) :
    BodyAct i fun s => if p s then f s else g s where
  inBody s := by
    split
    · exact hf.inBody s
    · exact hg.inBody s
  alike s t h := by
    simp only [hp s t h.sameView]
    split
    · exact hf.alike s t h
    · exact hg.alike s t h

theorem writeG {v : State → BitVec 1} (hi : i = .init ∨ ∃ g, i = .setgain g) (hv : SeenBy i v) :
    BodyAct i fun s => s.writeG (v s) where
  inBody s := { InBody.refl s with
    g := fun h h' => by obtain rfl | ⟨g, rfl⟩ := hi; exacts [absurd rfl h, absurd rfl (h' g)]
    gWritten := fun _ => rfl }
  alike s t h := { h with g := fun _ => hv s t h.sameView }

theorem writeIT {v : State → BitVec 2} (hi : i = .init ∨ ∃ it, i = .setit it) (hv : SeenBy i v) :
    BodyAct i fun s => s.writeIT (v s) where
  inBody s := { InBody.refl s with
    it := fun h h' => by obtain rfl | ⟨it, rfl⟩ := hi; exacts [absurd rfl h, absurd rfl (h' it)]
    itWritten := fun _ => rfl }
  alike s t h := { h with it := fun _ => hv s t h.sameView }

theorem writePKG {v : State → BitVec 2} (hi : i = .init) (hv : SeenBy i v) : BodyAct i fun s => s.writePKG (v s) where
  inBody s := { InBody.refl s with pkg := fun h => absurd hi h, pkgWritten := fun _ => rfl }
  alike s t h := { h with pkg := fun _ => hv s t h.sameView }

end BodyAct

end

namespace EndAct

variable {i : Instr}

theorem respond {st : State → Status} {d : State → BitVec 32} (hst : SeenBy i st) (hd : SeenBy i d) :
    EndAct i fun s => s.respond (st s) (d s) where
  frame s := { Frame.refl s with }
  run _ := rfl
  alike s t h := { h with run := rfl, responses := by simp [h.responses, hst s t h.sameView, hd s t h.sameView] }

theorem frameDone : EndAct i State.frameDone where
  frame s := { Frame.refl s with }
  run _ := rfl
  alike _ _ h := { h with run := rfl }

theorem advance_run {f : State → State} (hf : EndAct i f) (s : State) : (f s).advance.run = none := by
  rw [State.advance_run, hf.run, Option.map_none]

end EndAct

end Sys2Proof.Machine

/-! ### The pseudocode of the operations -/

namespace Sys2Proof.Machine

section
variable {i : Instr} {ls : List Line}

theorem SeenBy.const {α : Type} (a : α) : SeenBy i fun _ => a := fun _ _ _ => rfl

/-- What is computed from the parameters and the local names alone is seen by every operation. -/
theorem SeenBy.of_locals {α : Type} (v : Cfg → Locals → α) : SeenBy i fun s => v s.cfg s.loc := fun _ _ h =>
  congrArg₂ v h.cfg h.loc

theorem SeenBy.map {α β : Type} {v : State → α} (hv : SeenBy i v) (f : α → β) : SeenBy i fun s => f (v s) :=
  fun s t h => congrArg f (hv s t h)

namespace Pseudocode

theorem set {f : State → Locals} (hf : SeenBy i f) (h : Pseudocode i ls) : Pseudocode i (lineSet f :: ls) :=
  .act (BodyAct.nothing.setLoc hf) h

theorem readG (hi : i.readsG = true) (h : Pseudocode i ls) : Pseudocode i (lineReadG :: ls) :=
  h.set fun s t hv => by simp only [hv.loc, State.readG_eq, hv.g hi]

theorem readIT (hi : i.readsIT = true) (h : Pseudocode i ls) : Pseudocode i (lineReadIT :: ls) :=
  h.set fun s t hv => by simp only [hv.loc, State.readIT_eq, hv.it hi]

theorem readPKG (hi : i.readsPKG = true) (h : Pseudocode i ls) : Pseudocode i (lineReadPKG :: ls) :=
  h.set fun s t hv => by simp only [hv.loc, State.readPKG_eq, hv.pkg hi]

theorem delay {d : State → Nat} (hd : SeenBy i d) (h : Pseudocode i ls) : Pseudocode i (lineDelay d :: ls) :=
  .call (hd.map (some <| Call.delay ·)) h

theorem busWrite {frame : State → List Byte} (hf : SeenBy i frame) (h : Pseudocode i ls) :
    Pseudocode i (lineBusWrite frame :: ls) :=
  .call (hf.map (some <| Call.busWrite ·)) h

theorem memWrite {reg : Cfg → RegAddr} {v : State → Byte} (hv : SeenBy i v) (h : Pseudocode i ls) :
    Pseudocode i (memWriteLines reg v ++ ls) :=
  .busWrite (fun s t hst => by rw [hst.cfg, hv s t hst]) <|
    .act (.ite (.of_locals fun _ l => l.ok = true) .nothing (.diag _)) h

theorem powerUp (h : Pseudocode i ls) : Pseudocode i (powerUpLines ++ ls) := h.memWrite (.of_locals fun c _ => c.ctrlOn)

theorem powerDown (h : Pseudocode i ls) : Pseudocode i (powerDownLines ++ ls) :=
  h.memWrite (.of_locals fun c _ => c.ctrlOff)

theorem memRead8 {reg : Cfg → RegAddr} (h : Pseudocode i ls) : Pseudocode i (memRead8Lines reg ++ ls) :=
  .busWrite (.of_locals fun c _ => readFrame8 c (reg c)) <|
    .act (.ite (.of_locals fun _ l => l.ok = true) .nothing
      ((BodyAct.diag _).setLoc (.of_locals fun _ l => { l with byte := none }))) <|
    .call (.of_locals fun _ l => if l.ok then some (Call.busRead 1) else none) <|
    .act (.ite (.of_locals fun _ l => (l.ok && l.byte.isNone) = true) (.diag _) .nothing) h

theorem memRead16 {reg : Cfg → RegAddr} (h : Pseudocode i ls) : Pseudocode i (memRead16Lines reg ++ ls) :=
  .busWrite (.of_locals fun c _ => readFrame16 c (reg c)) <|
    .act (.ite (.of_locals fun _ l => l.ok = true) .nothing
      ((BodyAct.diag _).setLoc (.of_locals fun _ l => { l with word := none }))) <|
    .call (.of_locals fun _ l => if l.ok then some (Call.busRead 2) else none) <|
    .act (.ite (.of_locals fun _ l => (l.ok && l.word.isNone) = true) (.diag _) .nothing) h

theorem respond {st : State → Status} {d : State → BitVec 32} (hst : SeenBy i st) (hd : SeenBy i d) :
    Pseudocode i [lineRespond st d] :=
  .last (.respond hst hd)

theorem frameDone : Pseudocode i [lineFrameDone] := .last .frameDone

end Pseudocode

end

/-- Only the lines `lineReadG`, `lineReadIT` and `lineReadPKG` read a register, and those stand where R25's table has
them; every other line computes from the parameters and the local names. -/
theorem pseudocode_linesOf (i : Instr) : Pseudocode i (linesOf i) := by
  have status {i} := SeenBy.of_locals (i := i) fun _ l => statusOf l.ok
  have zero {i} := SeenBy.const (i := i) (0 : BitVec 32)
  have ok {i} := SeenBy.const (i := i) Status.ok
  have byte {i} {α : Type} (f : Byte → α) := SeenBy.of_locals (i := i) fun _ l => f (orZero l.byte)
  cases i <;> simp only [linesOf, wrregLines, rdregLines, rdreg16Lines, enableLines, disableLines, initLines,
    setitLines, setgainLines, rdchanLines, luxLines, frameWriteLines, frameRead8Lines, frameRead16Lines,
    List.append_assoc, List.cons_append, List.nil_append]
  case wrreg => exact .memWrite (.const _) <| .respond status zero
  case rdreg =>
    exact .memRead8 <| .respond (.of_locals fun _ l => statusOf l.byte.isSome) (byte (·.setWidth 32))
  case rdreg16 =>
    exact .memRead16 <| .respond (.of_locals fun _ l => statusOf l.word.isSome)
      (.of_locals fun _ l => (orZero l.word).setWidth 32)
  case enable => exact .powerUp <| .respond status zero
  case disable => exact .powerDown <| .respond status zero
  case init =>
    exact .powerUp <| .memRead8 <|
      .act (.ite (byte (powerBit · = 0#1)) (.diag _) .nothing) <| .memRead8 <|
      .act (.writePKG rfl (byte pkgField)) <| .memRead8 <|
      .act (.writeG (.inl rfl) (byte gainField)) <| .act (.writeIT (.inl rfl) (byte modeField)) <|
      .powerDown <| .respond ok zero
  case setit it =>
    exact .readG rfl <| .powerUp <| .memWrite (.of_locals fun _ l => timing l.g it) <| .powerDown <|
      .act (.writeIT (.inr ⟨it, rfl⟩) (.const _)) <| .respond ok zero
  case setgain g =>
    exact .readIT rfl <| .powerUp <| .memWrite (.of_locals fun _ l => timing g l.it) <| .powerDown <|
      .act (.writeG (.inr ⟨g, rfl⟩) (.const _)) <| .respond ok zero
  case rdchan =>
    exact .readIT rfl <| .powerUp <| .delay (.of_locals fun c l => waitOf c l.it) <| .memRead16 <|
      .set (.of_locals fun _ l => { l with ch0 := orZero l.word }) <| .memRead16 <|
      .set (.of_locals fun _ l => { l with ch1 := orZero l.word }) <| .powerDown <|
      .respond ok (.of_locals fun _ l => channelData l.ch0 l.ch1)
  case lux raw0 raw1 =>
    refine .readIT rfl <| .readG rfl <| .readPKG rfl <| .set ?_ <| .set ?_ <| .set ?_ <| .set ?_ <| .set ?_ <|
      .act (.ite ?_ (.diag _) .nothing) <| .set ?_ <| .set ?_ <| .set ?_ <| .set ?_ <| .set ?_ <|
      .respond ok (.of_locals fun _ l => luxData l.lux)
    all_goals intro s t h; simp only [h.cfg, h.loc]
  case frameWrite => exact .memWrite (.const _) .frameDone
  case frameRead8 => exact .memRead8 .frameDone
  case frameRead16 => exact .memRead16 .frameDone

/-! ### What pseudocode keeps -/

section
variable {i : Instr} {ls : List Line}

namespace Pseudocode

/-- Run from any state, pseudocode writes only what its operation may write. -/
theorem runLines_frame (h : Pseudocode i ls) (s : State) : Frame i s (runLines ls s) := by
  induction h generalizing s with
  | last hf => exact (hf.frame s).advance
  | act hf _ ih => exact (hf.inBody s).advance.trans (ih _)
  | @call c ret ls _ _ ih =>
    rw [runLines_call]
    split
    · exact (Frame.refl s).advance.trans (ih _)
    · split
      · exact (Frame.endCall s _ ret).trans (ih _)
      · exact .blocked_looked s

/-- Run from states alike but for the registers an operation does not read, its pseudocode leads to such states. -/
theorem runLines_alike (h : Pseudocode i ls) {s t : State} (hst : Alike i s t) :
    Alike i (runLines ls s) (runLines ls t) := by
  induction h generalizing s t with
  | last hf => exact (hf.alike s t hst).advance
  | act hf _ ih => exact ih (hf.alike s t hst).advance
  | @call c ret ls hc _ ih =>
    rw [runLines_call, runLines_call, ← hc s t hst.sameView, ← hst.returnsNow]
    split
    · exact ih hst.advance
    · split
      · exact ih (hst.endCall _ ret)
      · exact hst.blocked.looked

end Pseudocode

/-- What is left of pseudocode at one of its lines is pseudocode. -/
theorem Pseudocode.drop (h : Pseudocode i ls) {k : Nat} (hk : k < ls.length) : Pseudocode i (ls.drop k) := by
  induction k generalizing ls with
  | zero => exact h
  | succ k ih =>
    cases h with
    | last hf => simp at hk
    | act _ hls => exact ih hls (Nat.lt_of_succ_lt_succ hk)
    | call _ hls => exact ih hls (Nat.lt_of_succ_lt_succ hk)

theorem exec_frame {s t : State} (h : exec i s = .next t) : Frame i s t := by
  rw [exec_eq_runLines] at h
  cases h
  exact (Frame.accept s).trans ((pseudocode_linesOf i).runLines_frame _)

theorem exec_alike {s t : State} (h : Alike i s t) :
    ∃ u v, exec i s = .next u ∧ exec i t = .next v ∧ Alike i u v :=
  ⟨_, _, exec_eq_runLines i s, exec_eq_runLines i t, (pseudocode_linesOf i).runLines_alike { h with run := rfl }⟩

end

/-- Settles O27: the frame of the operation's pseudocode. -/
theorem deviceRegistersAreWrittenOnlyByTheirOperations :
    Obligations.DeviceRegistersAreWrittenOnlyByTheirOperations := by
  intro i s t h
  obtain ⟨hcfg, haddr, hpkg, hit, hg, -⟩ := exec_frame h
  exact ⟨haddr, hcfg, hpkg, hit, hg⟩

/-- Settles O25: the two states are alike for the operation, and it leads to states alike for it. -/
theorem operationsDependOnlyOnTheRegistersTheyRead : Obligations.OperationsDependOnlyOnTheRegistersTheyRead := by
  intro i s g it pkg gw iw pw
  refine (exec_alike ?alike).imp fun t h => h.imp fun t' ⟨ht, ht', h⟩ => ⟨ht, ht', h.trace.symm, h.responses.symm,
    h.run.symm, h.calls.symm, h.answers.symm, h.looks.symm, h.returns.symm⟩
  exact ⟨rfl, rfl, rfl, rfl, rfl, rfl, rfl, rfl, rfl, rfl, fun h => (if_pos h).symm, fun h => (if_pos h).symm,
    fun h => (if_pos h).symm⟩

/-- A step, of a busy block too, writes what the operation it runs may write, or no register at all. -/
theorem step_frame {s t : State} (h : step s = .next t) : ∃ i, Frame i s t := by
  obtain ⟨r, -, hk, rfl⟩ | ⟨-, -, rfl⟩ | ⟨w, rest, -, -, ⟨i, -, rfl⟩ | ⟨-, rfl⟩⟩ := step_eq_next h
  · exact ⟨r.op, ((pseudocode_linesOf r.op).drop hk).runLines_frame s⟩
  · exact ⟨.lux 0 0, .refl _⟩
  · exact ⟨i, Frame.trans (t := State.accept { s with requests := rest } i) { Frame.refl s with }
      ((pseudocode_linesOf i).runLines_frame _)⟩
  · exact ⟨.lux 0 0, { Frame.refl s with }⟩

theorem not_readsUnwritten_of_allWritten {s : State} (h : s.AllWritten) (i : Instr) : ¬ s.ReadsUnwritten i := by
  obtain ⟨hg, hit, hpkg⟩ := h
  simp [State.ReadsUnwritten, hg, hit, hpkg]

/-- Settles O26: INIT writes all three registers, and a written register stays one in every frame. -/
theorem initMakesTheRegistersReadableForGood : Obligations.InitMakesTheRegistersReadableForGood := by
  refine ⟨fun s h => ⟨_, exec_init h, performInit_allWritten s⟩, fun s t hs h => ?_,
    fun i s h => not_readsUnwritten_of_allWritten h i⟩
  obtain ⟨i, hframe⟩ := step_frame h
  exact hframe.allWritten hs

end Sys2Proof.Machine

/-! ### Where a step ends: idle, or blocked in a call (R152, R241) -/

namespace Sys2Proof.Machine

/-- The line at which pseudocode stands, and what is left after it. -/
theorem getElem?_and_drop_of_drop_eq_cons {α : Type} {L ls : List α} {k : Nat} {a : α} (h : L.drop k = a :: ls) :
    L[k]? = some a ∧ L.drop (k + 1) = ls := by
  constructor
  · rw [← List.head?_drop, h, List.head?_cons]
  · rw [← List.tail_drop, h, List.tail_cons]

namespace State

theorem busy_of_idle {s : State} (h : s.run = none) : s.busy = false := by rw [busy, h, Option.isSome_none]

variable {s : State} {r : Running} {c : State → Option Call} {ret : Answer → Locals → Locals}

/-- The call LUXCORE is blocked in is that of its line. -/
theorem pendingCall_eq_of_call (hr : s.run = some r) (hl : (linesOf r.op)[r.seq]? = some (.call c ret)) :
    s.pendingCall = if r.waiting then c s else none := by
  simp only [pendingCall, hr, hl]

theorem pendingCall_eq_some {x : Call} (h : s.pendingCall = some x) :
    ∃ r c ret, s.run = some r ∧ (linesOf r.op)[r.seq]? = some (.call c ret) ∧ r.waiting = true ∧ c s = some x := by
  unfold pendingCall at h
  split at h
  · cases h
  next r hr =>
    split at h
    next c ret hl =>
      split at h
      next hw => exact ⟨r, c, ret, hr, hl, hw, h⟩
      · cases h
    · cases h

/-- Blocked is blocked. -/
theorem blocked_of_waiting (hr : s.run = some r) (hw : r.waiting = true) : s.blocked = s := by
  have same : (s.run.map fun r => { r with waiting := true }) = s.run := by rw [hr, Option.map_some, ← hw]
  rw [blocked, same]

theorem complete_responses (s : State) (x : Call) : (s.complete x).responses = s.responses := by cases x <;> rfl

theorem endCall_responses (s : State) (x : Call) (ret : Answer → Locals → Locals) :
    (s.endCall x ret).responses = s.responses := s.complete_responses x

theorem standsAt_self (hr : s.run = some r) : s.StandsAt r.op r.seq := fun r' hr' => by
  cases hr.symm.trans hr'
  exact ⟨rfl, rfl⟩

theorem standsAt_accept (s : State) (i : Instr) : (s.accept i).StandsAt i 0 := standsAt_self (r := { op := i }) rfl

theorem sameView_blocked (i : Instr) (s : State) : SameView i s.blocked s :=
  ⟨rfl, s.blocked_loc, fun _ => rfl, fun _ => rfl, fun _ => rfl⟩

theorem sameView_looked (i : Instr) (s : State) : SameView i s.looked s :=
  ⟨rfl, rfl, fun _ => rfl, fun _ => rfl, fun _ => rfl⟩

end State

/-- A line of an operation that calls is the call of what the operation can see. -/
theorem seenBy_of_call {i : Instr} {k : Nat} {c : State → Option Call} {ret : Answer → Locals → Locals}
    (hl : (linesOf i)[k]? = some (.call c ret)) : SeenBy i c := by
  obtain ⟨hk, hl⟩ := List.getElem?_eq_some_iff.mp hl
  have h := (pseudocode_linesOf i).drop hk
  rw [List.drop_eq_getElem_cons hk, hl] at h
  cases h with
  | call hc _ => exact hc

theorem InBody.standsAt {i j : Instr} {s t : State} {k : Nat} (h : InBody i s t) (hs : s.StandsAt j k) :
    t.StandsAt j k := by
  obtain ⟨l, hl⟩ := h.run
  intro r hr
  exact ((OwnAct.refl s).setLoc l).standsAt j k hs r (hl ▸ hr)

/-- Run from a line of its own, an operation ends, or is blocked in a call and has given no response. -/
theorem Pseudocode.ends_or_blocks {i : Instr} {ls : List Line} (h : Pseudocode i ls) {s : State} {k : Nat}
    (hls : (linesOf i).drop k = ls) (hs : s.StandsAt i k) :
    (runLines ls s).run = none
      ∨ (runLines ls s).responses = s.responses ∧ ∃ x, (runLines ls s).pendingCall = some x := by
  induction h generalizing s k with
  | last hf => exact .inl (hf.advance_run s)
  | act hf _ ih =>
    obtain ⟨-, hls⟩ := getElem?_and_drop_of_drop_eq_cons hls
    rw [← (hf.inBody s).responses]
    exact ih hls ((hf.inBody s).standsAt hs).advance
  | @call c ret ls hc _ ih =>
    obtain ⟨hl, hls⟩ := getElem?_and_drop_of_drop_eq_cons hls
    rw [runLines_call]
    split
    · exact ih hls hs.advance
    next x hx =>
      split
      · have := ih hls (hs.endCall x ret)
        rwa [State.endCall_responses] at this
      · cases hr : s.run with
        | none => exact .inl (by rw [State.looked_run, State.blocked_run, hr]; rfl)
        | some r =>
          obtain ⟨rfl, rfl⟩ := hs r hr
          have hr' : s.blocked.looked.run = some { r with waiting := true } := by
            rw [State.looked_run, State.blocked_run, hr, Option.map_some]
          refine .inr ⟨rfl, x, ?_⟩
          rw [State.pendingCall_eq_of_call hr' hl, if_pos rfl, hc _ _ (State.sameView_looked r.op _),
            hc _ _ (s.sameView_blocked r.op), hx]

/-- Settles O33: a step stays in the frame of what it runs, and pseudocode ends or blocks. -/
theorem stepKeepsAddressAndParametersAndEndsIdleOrWaiting :
    Obligations.StepKeepsAddressAndParametersAndEndsIdleOrWaiting := by
  intro s t h
  obtain ⟨i, hframe⟩ := step_frame h
  refine ⟨hframe.addr, hframe.cfg, ?_⟩
  obtain ⟨r, hr, hk, rfl⟩ | ⟨hr, -, rfl⟩ | ⟨w, rest, -, -, ⟨i, -, rfl⟩ | ⟨-, rfl⟩⟩ := step_eq_next h
  · exact (((pseudocode_linesOf r.op).drop hk).ends_or_blocks rfl (State.standsAt_self hr)).imp_right (·.2)
  · exact .inl hr
  · exact ((pseudocode_linesOf i).ends_or_blocks (k := 0) rfl (State.standsAt_accept _ i)).imp_right (·.2)
  · exact .inl rfl

/-! ### An operation ends if its calls are answered, and hangs if not (R241) -/

def Line.isCall : Line → Bool
  | .act _ => false
  | .call _ _ => true

/-- The most calls an operation waits in is the number of its lines that call. -/
theorem countP_isCall_linesOf (i : Instr) : (linesOf i).countP Line.isCall = waitBound i := by
  cases i <;> rfl

theorem waitBound_le_eight (i : Instr) : waitBound i ≤ 8 := by
  cases i <;> simp [waitBound, busCallBound, delayCount]

theorem Pseudocode.ends {i : Instr} {ls : List Line} (h : Pseudocode i ls) {s : State}
    (hs : s.Returns (ls.countP Line.isCall)) : (runLines ls s).run = none := by
  induction h generalizing s with
  | last hf => exact hf.advance_run s
  | act hf _ ih => exact ih (hs.congr (hf.inBody s).returns (hf.inBody s).looks)
  | @call c ret ls _ _ ih =>
    rw [List.countP_cons_of_pos rfl] at hs
    rw [runLines_call]
    split
    · exact ih (hs.mono (Nat.le_succ _))
    · rw [if_pos hs.now]
      exact ih (hs.endCall _ ret)

theorem exec_ends {i : Instr} {s : State} (h : s.Returns (waitBound i)) : ∃ t, exec i s = .next t ∧ t.busy = false := by
  rw [← countP_isCall_linesOf] at h
  exact ⟨_, exec_eq_runLines i s, State.busy_of_idle ((pseudocode_linesOf i).ends h)⟩

theorem exec_ends_or_blocks {i : Instr} {s t : State} (h : exec i s = .next t) :
    t.run = none ∨ t.responses = s.responses ∧ ∃ x, t.pendingCall = some x := by
  rw [exec_eq_runLines] at h
  cases h
  exact (pseudocode_linesOf i).ends_or_blocks (k := 0) rfl (s.standsAt_accept i)

/-- Every operation but LUX makes a bus write before it does anything that is seen, and blocks in it. -/
theorem runLines_blocks_in_first_call {i : Instr} {s : State} (hi : ∀ raw0 raw1, i ≠ .lux raw0 raw1)
    (h : s.returnsNow = false) : ∃ k l, runLines (linesOf i) (s.accept i) = s.looked.waitingAt i k l := by
  have blocks (k l frame ls) := runLines_lineBusWrite_blocks s i k l ls frame h
  cases i with
  | lux raw0 raw1 => exact absurd rfl (hi raw0 raw1)
  | _ =>
    simp only [linesOf, wrregLines, rdregLines, rdreg16Lines, enableLines, disableLines, initLines, setitLines,
      setgainLines, rdchanLines, frameWriteLines, frameRead8Lines, frameRead16Lines, powerUpLines, powerDownLines,
      memWriteLines, memRead8Lines, memRead16Lines, List.cons_append, List.nil_append,
      State.accept_eq_midway, lineReadG, lineReadIT, runLines_lineSet, blocks]
    exact ⟨_, _, rfl⟩

section
variable {s : State} {x : Call}

/-- A step of a blocked block runs its lines from the call it is blocked in. -/
theorem step_of_pendingCall (h : s.pendingCall = some x) :
    ∃ i k, k < (linesOf i).length ∧ step s = .next (runLines ((linesOf i).drop k) s) := by
  obtain ⟨r, c, ret, hr, hl, -, -⟩ := State.pendingCall_eq_some h
  obtain ⟨hk, -⟩ := List.getElem?_eq_some_iff.mp hl
  exact ⟨r.op, r.seq, hk, step_of_busy hr hk⟩

/-- A look that does not find the answer changes nothing else. -/
theorem step_of_unanswered (h : s.pendingCall = some x) (hn : s.returnsNow = false) : step s = .next s.looked := by
  obtain ⟨r, c, ret, hr, hl, hw, hx⟩ := State.pendingCall_eq_some h
  obtain ⟨hk, hl⟩ := List.getElem?_eq_some_iff.mp hl
  rw [step_of_busy hr hk, List.drop_eq_getElem_cons hk, hl, runLines_call, hx]
  simp only [hn, Bool.false_eq_true, if_false, State.blocked_of_waiting hr hw]

theorem pendingCall_looked (h : s.pendingCall = some x) : s.looked.pendingCall = some x := by
  obtain ⟨r, c, ret, hr, hl, hw, hx⟩ := State.pendingCall_eq_some h
  rw [State.pendingCall_eq_of_call (s := s.looked) hr hl, if_pos hw,
    seenBy_of_call hl _ _ (State.sameView_looked r.op s), hx]

theorem run_succ_of_next (M : Host.Core) {s t : M.State} (h : M.step s = .next t) (k : Nat) :
    M.run (k + 1) s = M.run k t := by
  simp only [Host.Core.run, h]

/-- A collaborator that is never found to have answered hangs the operation for good (R241). -/
theorem core_run_of_unanswered (k : Nat) (h : s.pendingCall = some x) (hn : ∀ n < k, s.returnsAt n = false) :
    Host.Core.run Sys2Proof.core k s = .next (s.afterLooks k) := by
  induction k generalizing s with
  | zero => rfl
  | succ k ih =>
    have now : s.returnsNow = false := by rw [State.returnsNow_eq_returnsAt_zero, hn 0 (Nat.succ_pos k)]
    have later : ∀ n < k, s.looked.returnsAt n = false := fun n hk => by
      rw [State.looked_returnsAt, hn (n + 1) (Nat.succ_lt_succ hk)]
    calc Host.Core.run core (k + 1) s
      _ = Host.Core.run core k s.looked := run_succ_of_next core (step_of_unanswered h now) k
      _ = .next (s.looked.afterLooks k) := ih (pendingCall_looked h) later
      _ = .next (s.afterLooks (k + 1)) := by rw [State.looked_afterLooks]

theorem step_ends_of_answered (h : s.pendingCall = some x) (hs : s.Returns 8) :
    ∃ t, step s = .next t ∧ t.busy = false := by
  obtain ⟨i, k, hk, hstep⟩ := step_of_pendingCall h
  have calls : ((linesOf i).drop k).countP Line.isCall ≤ 8 :=
    calc ((linesOf i).drop k).countP Line.isCall
      _ ≤ (linesOf i).countP Line.isCall := (List.drop_sublist k _).countP_le
      _ = waitBound i := countP_isCall_linesOf i
      _ ≤ 8 := waitBound_le_eight i
  exact ⟨_, hstep, State.busy_of_idle (((pseudocode_linesOf i).drop hk).ends (hs.mono calls))⟩

end

/-- Settles O48: one lemma for each clause. -/
theorem operationsEndWhenAnsweredAndHangWhenNot : Obligations.OperationsEndWhenAnsweredAndHangWhenNot := by
  refine ⟨fun i s => exec_ends, fun i s t h hbusy => ?_, fun i s hi h => ?_,
    fun s x k => core_run_of_unanswered k, fun s x => step_ends_of_answered⟩
  · refine (exec_ends_or_blocks h).resolve_left fun hrun => ?_
    rw [State.busy_of_idle hrun] at hbusy
    cases hbusy
  · obtain ⟨k, l, hrun⟩ := runLines_blocks_in_first_call hi (s.returnsNow_eq_returnsAt_zero.trans h)
    exact ⟨_, (exec_eq_runLines i s).trans (congrArg _ hrun), rfl, rfl⟩

/-- Settles O32: the default parameters are well-formed, the strap fits, and no operation and no event is there. -/
theorem resetMeetsTheInvariant : Obligations.ResetMeetsTheInvariant := by
  refine ⟨⟨Tests.test_cfg_defaults, by decide, fun r hr => ?_, fun e he => ?_⟩, rfl, rfl, rfl⟩
  · cases hr
  · cases he

end Sys2Proof.Machine

/-! ### Line by line (R26, R42, R152)

`InFlight` says what holds of an operation between two lines. A step of the sequencer keeps it or ends the operation. -/

namespace Sys2Proof.Machine

section
variable {s : State} {r : Running} {c : State → Option Call} {ret : Answer → Locals → Locals}

/-! One equation for each step of the sequencer. -/

theorem seqStep_of_idle (hr : s.run = none) : seqStep s = .next s := by
  simp only [seqStep, hr]

theorem seqStep_of_act {f : State → State} (hr : s.run = some r) (hl : (linesOf r.op)[r.seq]? = some (.act f)) :
    seqStep s = .next (f s).advance := by
  simp only [seqStep, hr, hl]

theorem seqStep_of_skip (hr : s.run = some r) (hl : (linesOf r.op)[r.seq]? = some (.call c ret)) (hc : c s = none) :
    seqStep s = .next s.advance := by
  simp only [seqStep, hr, hl, hc]

theorem seqStep_of_call {x : Call} (hr : s.run = some r) (hl : (linesOf r.op)[r.seq]? = some (.call c ret))
    (hc : c s = some x) (hw : r.waiting = false) : seqStep s = .next s.blocked := by
  simp only [seqStep, hr, hl, hc, hw, Bool.false_eq_true, if_false]

theorem seqStep_of_answer {x : Call} (hr : s.run = some r) (hl : (linesOf r.op)[r.seq]? = some (.call c ret))
    (hc : c s = some x) (hw : r.waiting = true) (hn : s.returnsNow = true) : seqStep s = .next (s.endCall x ret) := by
  simp only [seqStep, hr, hl, hc, hw, hn, if_true]

theorem seqSteps_of_idle (hr : s.run = none) (k : Nat) : seqSteps k s = .next s := by
  induction k with
  | zero => rfl
  | succ k ih => rw [seqSteps, seqStep_of_idle hr, andThen_next, ih]

/-! Where an operation in flight stands after a line. -/

theorem State.advance_run_of_run (hr : s.run = some r) :
    s.advance.run = some { op := r.op, seq := r.seq + 1, waiting := false, loc := r.loc } := by
  rw [advance_run, hr, Option.map_some]

theorem State.endCall_run_of_run (hr : s.run = some r) (x : Call) :
    (s.endCall x ret).run
      = some { op := r.op, seq := r.seq + 1, waiting := false, loc := ret s.nextAnswer s.loc } := by
  have hset : ((s.complete x).setLoc (ret s.nextAnswer s.loc)).run = some { r with loc := ret s.nextAnswer s.loc } := by
    rw [setLoc_run, complete_run, hr, Option.map_some]
  exact advance_run_of_run hset

theorem InBody.run_of_run {i : Instr} {t : State} (h : InBody i s t) (hr : s.run = some r) :
    ∃ l, t.run = some { r with loc := l } := by
  obtain ⟨l, hl⟩ := h.run
  exact ⟨l, by rw [hl, State.setLoc_run, hr, Option.map_some]⟩

/-! Blocking in a call before it is answered makes no difference to where the lines lead. -/

theorem State.blocked_advance (s : State) : s.blocked.advance = s.advance := by
  simp only [blocked, advance, Option.map_map, Function.comp_def]

theorem State.blocked_blocked (s : State) : s.blocked.blocked = s.blocked := by
  simp only [blocked, Option.map_map, Function.comp_def]

theorem State.blocked_complete (s : State) (x : Call) : s.blocked.complete x = (s.complete x).blocked := by
  cases x <;> rfl

theorem State.blocked_setLoc (s : State) (l : Locals) : s.blocked.setLoc l = (s.setLoc l).blocked := by
  simp only [blocked, setLoc, Option.map_map, Function.comp_def]

theorem State.blocked_endCall (s : State) (x : Call) (ret : Answer → Locals → Locals) :
    s.blocked.endCall x ret = s.endCall x ret := by
  have answer : s.blocked.nextAnswer = s.nextAnswer := rfl
  rw [endCall, endCall, answer, blocked_loc, blocked_complete, blocked_setLoc, blocked_advance]

theorem runLines_blocked {i : Instr} (hc : SeenBy i c) (ls : List Line) (s : State) :
    runLines (.call c ret :: ls) s.blocked = runLines (.call c ret :: ls) s := by
  have now : s.blocked.returnsNow = s.returnsNow := rfl
  rw [runLines_call, runLines_call, hc _ _ (s.sameView_blocked i), now, s.blocked_advance, s.blocked_blocked]
  simp only [s.blocked_endCall]

end

theorem Pseudocode.ne_nil {i : Instr} {ls : List Line} (h : Pseudocode i ls) : ls ≠ [] := by
  rintro rfl
  cases h

/-- The operation `i`, accepted in `s`, is in flight in `t` with the lines `ls` left: it has given no response, its
calls are going to be answered, and the lines left lead where the whole of them does. -/
structure InFlight (i : Instr) (s t : State) (r : Running) (ls : List Line) : Prop where
  run : t.run = some r
  op : r.op = i
  left : (linesOf i).drop r.seq = ls
  code : Pseudocode i ls
  responses : t.responses = s.responses
  answered : t.Returns (ls.countP Line.isCall)
  leads : runLines ls t = runLines (linesOf i) (s.accept i)

namespace InFlight

variable {i : Instr} {s t u : State} {r : Running} {l : Line} {ls : List Line}

theorem accept (h : s.Returns (waitBound i)) : InFlight i s (s.accept i) { op := i } (linesOf i) where
  run := rfl
  op := rfl
  left := rfl
  code := pseudocode_linesOf i
  responses := rfl
  answered := (countP_isCall_linesOf i).symm ▸ h
  leads := rfl

theorem length_left (h : InFlight i s t r ls) : r.seq + ls.length = (linesOf i).length := by
  have := List.length_pos_iff.mpr h.code.ne_nil
  have := congrArg List.length h.left
  rw [List.length_drop] at this
  omega

theorem seq_lt (h : InFlight i s t r ls) : r.seq < (linesOf i).length := by
  have := List.length_pos_iff.mpr h.code.ne_nil
  have := h.length_left
  omega

theorem line (h : InFlight i s t r (l :: ls)) : (linesOf r.op)[r.seq]? = some l :=
  (getElem?_and_drop_of_drop_eq_cons (h.op ▸ h.left)).1

theorem step_eq (h : InFlight i s t r ls) : step t = exec i s := by
  have hk := h.seq_lt
  obtain ⟨hr, rfl, hleft, -, -, -, hleads⟩ := h
  rw [step_of_busy hr hk, hleft, hleads, exec_eq_runLines]

/-- A line that completes leads to the next one. -/
theorem next (h : InFlight i s t r (l :: ls)) (code : Pseudocode i ls) {loc : Locals}
    (run : u.run = some { op := r.op, seq := r.seq + 1, waiting := false, loc := loc })
    (responses : u.responses = t.responses) (answered : u.Returns (ls.countP Line.isCall))
    (leads : runLines (l :: ls) t = runLines ls u) :
    InFlight i s u { op := i, seq := r.seq + 1, waiting := false, loc := loc } ls where
  run := h.op ▸ run
  op := rfl
  left := (getElem?_and_drop_of_drop_eq_cons h.left).2
  code := code
  responses := responses.trans h.responses
  answered := answered
  leads := leads.symm.trans h.leads

/-- The making of a call leads into the wait, at the same line. -/
theorem block {c : State → Option Call} {ret : Answer → Locals → Locals} {x : Call}
    (h : InFlight i s t r (.call c ret :: ls)) (hc : SeenBy i c) (hx : c t = some x) :
    InFlight i s t.blocked { r with waiting := true } (.call c ret :: ls) ∧ t.blocked.pendingCall = some x := by
  have hrun : t.blocked.run = some { r with waiting := true } := by rw [State.blocked_run, h.run, Option.map_some]
  refine ⟨⟨hrun, h.op, h.left, h.code, h.responses, h.answered, (runLines_blocked hc ls t).trans h.leads⟩, ?_⟩
  rw [State.pendingCall_eq_of_call hrun h.line, if_pos rfl, hc _ _ (t.sameView_blocked i), hx]

/-- A sequencer step in flight: the last line ends the operation, or `seq` advances, or LUXCORE blocks in a call. -/
theorem seqStep_cases (h : InFlight i s t r ls) : ∃ u, seqStep t = .next u
    ∧ ((r.seq + 1 = (linesOf i).length ∧ u.run = none ∧ exec i s = .next u)
      ∨ (∃ l ls, InFlight i s u { op := i, seq := r.seq + 1, waiting := false, loc := l } ls)
      ∨ (r.waiting = false ∧ u = t.blocked ∧ (∃ x, u.pendingCall = some x)
          ∧ InFlight i s u { r with waiting := true } ls)) := by
  cases h.code with
  | @last f hf =>
    exact ⟨_, seqStep_of_act h.run h.line, .inl ⟨h.length_left, hf.advance_run t,
      (exec_eq_runLines i s).trans (congrArg _ h.leads.symm)⟩⟩
  | @act f ls hf hcode =>
    have hin := hf.inBody t
    obtain ⟨l, hrun⟩ := hin.run_of_run h.run
    exact ⟨_, seqStep_of_act h.run h.line, .inr (.inl ⟨l, ls, h.next hcode (State.advance_run_of_run hrun)
      hin.responses (h.answered.congr hin.returns hin.looks) rfl⟩)⟩
  | @call c ret ls hc hcode =>
    have hans := h.answered
    rw [List.countP_cons_of_pos rfl] at hans
    cases hx : c t with
    | none =>
      refine ⟨_, seqStep_of_skip h.run h.line hx, .inr (.inl ⟨_, ls, h.next hcode (State.advance_run_of_run h.run) rfl
        (hans.mono (Nat.le_succ _)) ?_⟩)⟩
      rw [runLines_call, hx]
    | some x =>
      cases hw : r.waiting with
      | true =>
        refine ⟨_, seqStep_of_answer h.run h.line hx hw hans.now, .inr (.inl ⟨_, ls, h.next hcode
          (State.endCall_run_of_run h.run x) (t.endCall_responses x ret) (hans.endCall x ret) ?_⟩)⟩
        rw [runLines_call, hx]
        exact if_pos hans.now
      | false =>
        obtain ⟨hnext, hcall⟩ := h.block hc hx
        exact ⟨_, seqStep_of_call h.run h.line hx hw, .inr (.inr ⟨rfl, rfl, ⟨x, hcall⟩, hnext⟩)⟩

/-- After any number of sequencer steps the operation is over, with the next state it gives, or in flight. -/
theorem seqSteps_cases (h : InFlight i s t r ls) (k : Nat) {u : State} (hu : seqSteps k t = .next u) :
    (u.busy = false ∧ exec i s = .next u) ∨ ∃ r ls, InFlight i s u r ls := by
  induction k generalizing t r ls with
  | zero =>
    cases hu
    exact .inr ⟨r, ls, h⟩
  | succ k ih =>
    obtain ⟨v, hv, hcases⟩ := h.seqStep_cases
    rw [seqSteps, hv, andThen_next] at hu
    obtain ⟨-, hrun, hexec⟩ | ⟨l, ls, hnext⟩ | ⟨-, -, -, hnext⟩ := hcases
    · rw [seqSteps_of_idle hrun] at hu
      cases hu
      exact .inl ⟨State.busy_of_idle hrun, hexec⟩
    · exact ih hnext hu
    · exact ih hnext hu

/-- An operation in flight ends: each line left takes a step, and one more if LUXCORE has yet to block in it. -/
theorem ends (h : InFlight i s t r ls) {n : Nat} (hn : 2 * (linesOf i).length ≤ n + 2 * r.seq + r.waiting.toNat) :
    ∃ k u, k ≤ n ∧ seqSteps k t = .next u ∧ u.busy = false := by
  have hseq := h.seq_lt
  have hwait := r.waiting.toNat_le
  induction n generalizing t r ls with
  | zero => omega
  | succ n ih =>
    obtain ⟨v, hv, hcases⟩ := h.seqStep_cases
    have first {k u} (hu : seqSteps k v = .next u) : seqSteps (k + 1) t = .next u := by
      rw [seqSteps, hv, andThen_next, hu]
    obtain ⟨-, hrun, -⟩ | ⟨l, ls, hnext⟩ | ⟨hw, -, -, hnext⟩ := hcases
    · exact ⟨1, v, by omega, first rfl, State.busy_of_idle hrun⟩
    · obtain ⟨k, u, hk, hu, hidle⟩ := ih hnext (by dsimp only; omega) hnext.seq_lt (Bool.toNat_le _)
      exact ⟨k + 1, u, by omega, first hu, hidle⟩
    · rw [hw, Bool.toNat_false] at hn
      obtain ⟨k, u, hk, hu, hidle⟩ := ih hnext (by simp only [Bool.toNat_true]; omega) hnext.seq_lt (Bool.toNat_le _)
      exact ⟨k + 1, u, by omega, first hu, hidle⟩

end InFlight

/-- Settles O39: the operation in flight, by induction on the sequencer's steps. -/
theorem sequencerIsBusyUntilItsLastLine : Obligations.SequencerIsBusyUntilItsLastLine := by
  intro i s h
  have start := InFlight.accept h
  refine ⟨rfl, fun k t ht => ?_, ?_⟩
  · refine (start.seqSteps_cases k ht).imp_right fun ⟨r, ls, hflight⟩ => ?_
    obtain ⟨u, hu, hcases⟩ := hflight.seqStep_cases
    refine ⟨r, u, hflight.run, hflight.op, hflight.seq_lt, hflight.responses, hflight.step_eq, hu, ?_⟩
    obtain ⟨hlast, hrun, -⟩ | ⟨l, ls, hnext⟩ | ⟨hw, hblocked, hcall, -⟩ := hcases
    · exact .inl ⟨hlast, State.busy_of_idle hrun⟩
    · exact .inr (.inl ⟨l, hnext.run⟩)
    · exact .inr (.inr ⟨hw, hblocked, hcall⟩)
  · exact start.ends (Nat.le_add_right _ _)

end Sys2Proof.Machine

/-! ### The bus frames (R54 to R56, R87 to R89)

A frame is its register access, and no response follows. A read frame needs no more answers than the calls it makes: one
where its command byte is answered `fail`. -/

namespace Sys2Proof.Machine

/-! The bytes of the three frames (R86 to R89). -/

theorem writeFrame_eq (c : Cfg) (reg : RegAddr) (v : Byte) : writeFrame c reg v = [c.commandBit ||| reg, v] := by
  rw [writeFrame, cmd_false]

theorem readFrame8_eq (c : Cfg) (reg : RegAddr) : readFrame8 c reg = [c.commandBit ||| reg] := by
  rw [readFrame8, cmd_false]

theorem readFrame16_eq (c : Cfg) (reg : RegAddr) :
    readFrame16 c reg = [c.commandBit ||| c.readWordBit ||| reg] := by
  rw [readFrame16, cmd_true]

theorem exec_frameRead8 {s : State} (reg : RegAddr) (h : s.Returns (s.readCalls 0)) :
    exec (.frameRead8 reg) s = .next (performFrameRead8 reg s) := by
  rw [exec_eq_runLines, State.accept_eq_midway, linesOf, frameRead8Lines, runLines_memRead8Lines _ _ _ _ _ _ h,
    runLines_lineFrameDone, performFrameRead8]

theorem exec_frameRead16 {s : State} (reg : RegAddr) (h : s.Returns (s.readCalls 0)) :
    exec (.frameRead16 reg) s = .next (performFrameRead16 reg s) := by
  rw [exec_eq_runLines, State.accept_eq_midway, linesOf, frameRead16Lines, runLines_memRead16Lines _ _ _ _ _ _ h,
    runLines_lineFrameDone, performFrameRead16]

theorem performFrameWrite_eq (reg : RegAddr) (v : Byte) (s : State) :
    performFrameWrite reg v s
      = (s.afterBus 1 (writeTrace s.addr (writeFrame s.cfg reg v) (s.answerAt 0).ok)).frameDone := by
  rw [performFrameWrite, State.memWrite_eq]

theorem performFrameRead8_eq (reg : RegAddr) (s : State) :
    performFrameRead8 reg s
      = (s.afterBus (s.readCalls 0) (s.readTrace 0 (readFrame8 s.cfg reg) 1)).frameDone := by
  rw [performFrameRead8, State.memRead8_eq]

theorem performFrameRead16_eq (reg : RegAddr) (s : State) :
    performFrameRead16 reg s
      = (s.afterBus (s.readCalls 0) (s.readTrace 0 (readFrame16 s.cfg reg) 2)).frameDone := by
  rw [performFrameRead16, State.memRead16_eq]

/-- Settles O10: each frame runs as its register access, which changes the state as `State.afterBus` does. -/
theorem busFramesAreTheirRegisterAccess : Obligations.BusFramesAreTheirRegisterAccess := by
  intro reg v s
  refine ⟨fun h => ?write, fun h => ?read8, fun h => ?read16⟩
  case write =>
    have hexec : exec (.frameWrite reg v) s = .next (performFrameWrite reg v s) := exec_eq_perform h
    rw [hexec, performFrameWrite_eq, writeFrame_eq, State.frameDone]
  case read8 => rw [exec_frameRead8 reg h, performFrameRead8_eq, readFrame8_eq, State.frameDone]
  case read16 => rw [exec_frameRead16 reg h, performFrameRead16_eq, readFrame16_eq, State.frameDone]

end Sys2Proof.Machine

/-! ### Which request words mean which operation (R82, R83)

`RequestMeans` says once what a request word must hold to decode to an operation, and what the operation is then. The
two round trips and the rows of R83 are read off it. -/

namespace Sys2Proof

/-- A request word with the opcode `op` and the payload `p` means the operation (R82, R83). -/
inductive RequestMeans (c : Cfg) : Nat → Payload → Instr → Prop
  | wrreg {p : Payload} (hz : aboveRegZero c p = true) : RequestMeans c 0x1 p (.wrreg (regField p) (valueField p))
  | rdreg {p : Payload} (hz : (aboveRegZero c p && valueField p == 0#8) = true) :
      RequestMeans c 0x2 p (.rdreg (regField p))
  | rdreg16 {p : Payload} (hz : (aboveRegZero c p && valueField p == 0#8) = true) :
      RequestMeans c 0x3 p (.rdreg16 (regField p))
  | enable {p : Payload} (hz : (p == 0#32) = true) : RequestMeans c 0x4 p .enable
  | disable {p : Payload} (hz : (p == 0#32) = true) : RequestMeans c 0x5 p .disable
  | init {p : Payload} (hz : (p == 0#32) = true) : RequestMeans c 0x6 p .init
  | setit {p : Payload} (hz : decide (p.toNat < 4) = true) : RequestMeans c 0x7 p (.setit (itField p))
  | setgain {p : Payload} (hz : (p &&& 0xFFFFFFEF#32 == 0#32) = true) : RequestMeans c 0x8 p (.setgain (gField p))
  | rdchan {p : Payload} (hz : (p == 0#32) = true) : RequestMeans c 0x9 p .rdchan
  | lux {p : Payload} : RequestMeans c 0xA p (.lux (raw0Field p) (raw1Field p))

/-- The decoder of request words takes the words of `RequestMeans` and no other. -/
theorem decodeReq_eq_ok_iff {c : Cfg} {w : ReqBits} {i : Instr} :
    decodeReq c w = .ok i ↔ RequestMeans c (opField w).toNat (payloadField w) i := by
  constructor
  · intro h
    unfold decodeReq at h
    dsimp only at h
    split at h
    case h_11 => cases h
    case h_10 hop =>
      cases h
      rw [hop]
      exact .lux
    all_goals
      next hop =>
        obtain ⟨hz, rfl⟩ := accepting_eq_ok h
        rw [hop]
        constructor
        exact hz
  · intro h
    unfold decodeReq
    generalize (opField w).toNat = op at h
    cases h with
    | lux => rfl
    | _ hz => exact if_pos hz

/-- An operation that a request word means is no bus frame (R80). -/
theorem RequestMeans.isFrame_eq_false {c : Cfg} {op : Nat} {p : Payload} {i : Instr} (h : RequestMeans c op p i) :
    i.isFrame = false := by
  cases h <;> rfl

/-- A request word is no frame, so it is not refused as a bad one (R92). -/
theorem decodeReq_ne_notAFrame (c : Cfg) (w : ReqBits) : decodeReq c w ≠ .error .notAFrame := by
  have accepting_ne (zero : Bool) (i : Instr) : accepting zero i ≠ .error .notAFrame := by
    cases zero <;> exact nofun
  unfold decodeReq
  dsimp only
  split
  case h_10 | h_11 => exact nofun
  all_goals exact accepting_ne _ _

/-! ### A payload is made of its fields (R83) -/

theorem extractLsb'_high_append_low {m n : Nat} (x : BitVec (m + n)) : x.extractLsb' n m ++ x.extractLsb' 0 n = x :=
  (BitVec.extractLsb'_append_extractLsb'_eq_extractLsb' (Nat.zero_add n).symm).trans BitVec.extractLsb'_eq_self

/-- A word is the one that has its opcode and its payload (R81). -/
theorem reqWord_eq_req {w : ReqBits} {op : BitVec 4} {p : Payload} (hop : (opField w).toNat = op.toNat)
    (hp : p = payloadField w) : reqWord op p = .req w := by
  rw [reqWord, hp, ← BitVec.eq_of_toNat_eq hop, opField_append_payloadField]

theorem regPayload_regField_valueField {c : Cfg} (h8 : c.regW ≤ 8) {p : Payload} (hz : aboveRegZero c p = true) :
    regPayload (regField p) (valueField p) = p := by
  have hp : p.toNat < 2 ^ (8 + c.regW) := of_decide_eq_true hz
  have h16 : 2 ^ (8 + c.regW) ≤ 2 ^ 16 := Nat.pow_le_pow_right (by decide) (by omega)
  apply BitVec.eq_of_toNat_eq
  simp only [toNat_regPayload, regField, valueField, BitVec.extractLsb'_toNat, Nat.shiftRight_eq_div_pow]
  omega

theorem setWidth_itField {p : Payload} (hz : p.toNat < 4) : (itField p).setWidth 32 = p := by
  apply BitVec.eq_of_toNat_eq
  simp only [itField, BitVec.toNat_setWidth, BitVec.extractLsb'_toNat, Nat.shiftRight_eq_div_pow]
  omega

theorem setWidth_gField_shiftLeft {p : Payload} (hz : p &&& 0xFFFFFFEF#32 = 0#32) :
    (gField p).setWidth 32 <<< 4 = p := by
  have mask : ∀ i < 32, i ≠ 4 → (0xFFFFFFEF#32).getLsbD i = true := by decide
  apply BitVec.eq_of_getLsbD_eq
  intro i hi
  by_cases h4 : i = 4
  · subst h4
    simp [gField]
  · have hbit : p.getLsbD i = false := by
      simpa [mask i hi h4] using congrArg (·.getLsbD i) hz
    simp [gField, hbit]
    omega

theorem raw1Field_append_raw0Field (p : Payload) : raw1Field p ++ raw0Field p = p := by
  rw [raw0Field, raw1Field, extractLsb'_high_append_low (m := 16)]

/-- The payload of a SETIT holds its operand (R83). -/
theorem setit_payload : ∀ it : BitVec 2,
    decide ((it.setWidth 32).toNat < 4) = true ∧ itField (it.setWidth 32) = it := by decide

/-- The payload of a SETGAIN holds its operand (R83). -/
theorem setgain_payload : ∀ g : BitVec 1,
    ((g.setWidth 32 <<< 4) &&& 0xFFFFFFEF#32 == 0#32) = true ∧ gField (g.setWidth 32 <<< 4) = g := by decide

/-! ### The round trips (R81 to R83, R86 to R89) -/

theorem decode_reqWord {c : Cfg} {op : BitVec 4} {p : Payload} {i : Instr} (h : RequestMeans c op.toNat p i) :
    decode c (reqWord op p) = .ok i := by
  apply decodeReq_eq_ok_iff.mpr
  rwa [opField_append, payloadField_append]

theorem decode_lux (c : Cfg) (raw0 raw1 : Word16) :
    decode c (reqWord 0xA#4 (raw1 ++ raw0)) = .ok (.lux raw0 raw1) :=
  decode_reqWord (by simpa using RequestMeans.lux (c := c) (p := raw1 ++ raw0))

/-! The frames: the register address is read back from the command byte. -/

theorem decode_writeFrame {c : Cfg} (hc : c.WF) {reg : RegAddr} (hreg : c.IsReg reg) (v : Byte) :
    decode c (.frame2 ((c.commandBit ||| reg) ++ v)) = .ok (.frameWrite reg v) := by
  have hmask := Machine.cmd_and_regMask hc hreg false
  rw [Machine.cmd_false] at hmask
  simp [decode, decodeFrame2, hmask]

theorem decode_readFrame8 {c : Cfg} (hc : c.WF) {reg : RegAddr} (hreg : c.IsReg reg) :
    decode c (.frame1 (c.commandBit ||| reg)) = .ok (.frameRead8 reg) := by
  have hmask := Machine.cmd_and_regMask hc hreg false
  rw [Machine.cmd_false] at hmask
  simp [decode, decodeFrame1, hmask]

theorem decode_readFrame16 {c : Cfg} (hc : c.WF) {reg : RegAddr} (hreg : c.IsReg reg) :
    decode c (.frame1 (c.commandBit ||| c.readWordBit ||| reg)) = .ok (.frameRead16 reg) := by
  have hmask := Machine.cmd_and_regMask hc hreg true
  have hne := Machine.cmd_true_ne_cmd_false hc hreg
  rw [Machine.cmd_true] at hmask hne
  rw [Machine.cmd_false] at hne
  simp [decode, decodeFrame1, hmask, hne]

theorem decode_encode {c : Cfg} (hc : c.WF) {i : Instr} (hi : i.wf c = true) : decode c (encode c i) = .ok i := by
  cases i with
  | wrreg reg v =>
    have hz := aboveRegZero_regPayload (of_decide_eq_true hi) v
    exact decode_reqWord (by simpa using RequestMeans.wrreg hz)
  | rdreg reg =>
    have hz := aboveRegZero_regPayload (of_decide_eq_true hi) 0#8
    exact decode_reqWord (by simpa [hz] using RequestMeans.rdreg (c := c) (p := regPayload reg 0#8))
  | rdreg16 reg =>
    have hz := aboveRegZero_regPayload (of_decide_eq_true hi) 0#8
    exact decode_reqWord (by simpa [hz] using RequestMeans.rdreg16 (c := c) (p := regPayload reg 0#8))
  | enable => exact decode_reqWord (.enable rfl)
  | disable => exact decode_reqWord (.disable rfl)
  | init => exact decode_reqWord (.init rfl)
  | setit it =>
    obtain ⟨hz, hit⟩ := setit_payload it
    exact decode_reqWord (by simpa [hit] using RequestMeans.setit (c := c) hz)
  | setgain g =>
    obtain ⟨hz, hg⟩ := setgain_payload g
    exact decode_reqWord (by simpa [hg] using RequestMeans.setgain (c := c) hz)
  | rdchan => exact decode_reqWord (.rdchan rfl)
  | lux raw0 raw1 => exact decode_lux c raw0 raw1
  | frameWrite reg v => exact decode_writeFrame hc (of_decide_eq_true hi) v
  | frameRead8 reg => exact decode_readFrame8 hc (of_decide_eq_true hi)
  | frameRead16 reg => exact decode_readFrame16 hc (of_decide_eq_true hi)

/-- Settles O1: the fields of each operation are read back from its word. -/
theorem encodeThenDecodeReturnsTheOperation : Obligations.EncodeThenDecodeReturnsTheOperation :=
  fun _ _ hc hi => decode_encode hc hi

theorem encode_of_requestMeans {c : Cfg} (h8 : c.regW ≤ 8) {w : ReqBits} {i : Instr}
    (h : RequestMeans c (opField w).toNat (payloadField w) i) : encode c i = .req w := by
  generalize hop : (opField w).toNat = op at h
  generalize hpay : payloadField w = p at h
  cases h with
  | wrreg hz => exact reqWord_eq_req hop (by rw [hpay, regPayload_regField_valueField h8 hz])
  | rdreg hz | rdreg16 hz =>
    obtain ⟨hz, hv⟩ := Bool.and_eq_true_iff.mp hz
    have hp := regPayload_regField_valueField h8 hz
    rw [eq_of_beq hv] at hp
    exact reqWord_eq_req hop (by rw [hpay, hp])
  | enable hz | disable hz | init hz | rdchan hz => exact reqWord_eq_req hop (by rw [hpay, eq_of_beq hz])
  | setit hz => exact reqWord_eq_req hop (by rw [hpay, setWidth_itField (of_decide_eq_true hz)])
  | setgain hz => exact reqWord_eq_req hop (by rw [hpay, setWidth_gField_shiftLeft (eq_of_beq hz)])
  | lux => exact reqWord_eq_req hop (by rw [hpay, raw1Field_append_raw0Field])

theorem encode_of_decodeFrame1 {c : Cfg} {b : Byte} {i : Instr} (h : decodeFrame1 c b = .ok i) :
    encode c i = .frame1 b := by
  unfold decodeFrame1 at h
  dsimp only at h
  split at h
  next hb => cases h; exact congrArg _ hb.symm
  · split at h
    next hb => cases h; exact congrArg _ hb.symm
    · cases h

theorem encode_of_decodeFrame2 {c : Cfg} {f : BitVec 16} {i : Instr} (h : decodeFrame2 c f = .ok i) :
    encode c i = .frame2 f := by
  unfold decodeFrame2 at h
  dsimp only at h
  split at h
  next hb =>
    cases h
    rw [encode, ← hb, extractLsb'_high_append_low (m := 8)]
  · cases h

/-- The encoding of what a word decodes to is the word: no bit of it is dropped (R83, R92). -/
theorem encode_of_decode {c : Cfg} (hc : c.WF) {w : PortWord} {i : Instr} (h : decode c w = .ok i) :
    encode c i = w := by
  obtain ⟨_, h8, _⟩ := hc
  cases w with
  | req w => exact encode_of_requestMeans h8 (decodeReq_eq_ok_iff.mp h)
  | frame1 b => exact encode_of_decodeFrame1 h
  | frame2 f => exact encode_of_decodeFrame2 h

/-- Settles O2: the operation is well-formed, and its fields make up the whole word. -/
theorem decodedWordsAreEncodingsOfWellFormedOperations : Obligations.DecodedWordsAreEncodingsOfWellFormedOperations :=
  fun _ _ _ hc h => ⟨wf_of_decode hc h, encode_of_decode hc h⟩

/-! ### The rows of the opcode map (R83)

A row fixes the opcode and the payload bits that must be 0. -/

/-- The opcode of a row. -/
def ReqRow.op (r : ReqRow) : BitVec 4 := opField r.pattern

/-- The payload bits that a row wants 0. -/
def ReqRow.zeroBits (r : ReqRow) : Payload := payloadField r.mask

theorem reqRows_fields : ∀ r ∈ reqRows, r.pattern = r.op ++ 0#32 ∧ r.mask = BitVec.allOnes 4 ++ r.zeroBits := by decide

theorem ReqRow.selects_iff {r : ReqRow} (hr : r ∈ reqRows) (w : ReqBits) :
    r.selects w = true ↔ opField w = r.op ∧ payloadField w &&& r.zeroBits = 0#32 := by
  obtain ⟨hpattern, hmask⟩ := reqRows_fields r hr
  have fields : w &&& r.mask = opField w ++ (payloadField w &&& r.zeroBits) := by
    rw [hmask, ← opField_append_payloadField w, opField_append, payloadField_append]
    exact BitVec.and_append.trans (by rw [BitVec.and_allOnes])
  rw [selects, beq_iff_eq, fields, hpattern]
  constructor
  · intro h
    exact ⟨by simpa using congrArg opField h, by simpa using congrArg payloadField h⟩
  · rintro ⟨hop, hp⟩
    rw [hop, hp]

/-- A payload has no bit from bit `k` on exactly when it is below `2 ^ k`. -/
theorem and_allOnes_shiftLeft_eq_zero (p : Payload) (k : Nat) :
    p &&& (BitVec.allOnes 32 <<< k) = 0#32 ↔ p.toNat < 2 ^ k := by
  constructor
  · intro h
    apply Nat.lt_pow_two_of_testBit
    intro i hi
    rw [BitVec.testBit_toNat]
    by_cases h32 : i < 32
    · have bit := congrArg (·.getLsbD i) h
      have in_mask : i - k < 32 := by omega
      simp only [BitVec.getLsbD_and, BitVec.getLsbD_shiftLeft, BitVec.getLsbD_allOnes] at bit
      simpa [hi.not_gt, h32, in_mask] using bit
    · exact BitVec.getLsbD_of_ge _ _ (by omega)
  · intro h
    apply BitVec.eq_of_getLsbD_eq
    intro i _
    by_cases hi : i < k
    · simp [hi]
    · have : p.getLsbD i = false := Nat.testBit_lt_two_pow (h.trans_le (Nat.pow_le_pow_right (by decide) (by omega)))
      simp [this]

/-- The payload check of WRREG, as a mask. -/
theorem aboveRegZero_defaults (p : Payload) :
    aboveRegZero Cfg.defaults p = true ↔ p &&& 0xFFFFF000#32 = 0#32 := by
  rw [aboveRegZero, decide_eq_true_iff]
  exact (and_allOnes_shiftLeft_eq_zero p 12).symm

/-- The payload check of RDREG and RDREG16, as a mask. -/
theorem aboveRegZero_and_valueField_defaults (p : Payload) :
    (aboveRegZero Cfg.defaults p && valueField p == 0#8) = true ↔ p &&& 0xFFFFF0FF#32 = 0#32 := by
  have masks : 0xFFFFF0FF#32 = 0xFFFFF000#32 ||| 0xFF#32 := by decide
  have value : valueField p = 0#8 ↔ p &&& 0xFF#32 = 0#32 := by
    have low : (p &&& 0xFF#32).toNat = p.toNat % 256 := Nat.and_two_pow_sub_one_eq_mod _ 8
    rw [← BitVec.toNat_inj, ← BitVec.toNat_inj, low, valueField, BitVec.extractLsb'_toNat]
    rfl
  rw [masks, BitVec.and_or_distrib_left, BitVec.or_eq_zero_iff, Bool.and_eq_true_iff, beq_iff_eq, value,
    aboveRegZero_defaults]

/-- The payload check of an operation without operands, as a mask. -/
theorem beq_zero_iff_mask (p : Payload) : (p == 0#32) = true ↔ p &&& 0xFFFFFFFF#32 = 0#32 := by
  have all : p &&& 0xFFFFFFFF#32 = p := BitVec.and_allOnes
  rw [all, beq_iff_eq]

/-- The payload check of SETIT, as a mask. -/
theorem lt_four_iff_mask (p : Payload) : decide (p.toNat < 4) = true ↔ p &&& 0xFFFFFFFC#32 = 0#32 :=
  decide_eq_true_iff.trans (and_allOnes_shiftLeft_eq_zero p 2).symm

/-- A payload that has every bit 0 that a row wants 0 is that of an operation of the row. -/
theorem requestMeans_of_row {r : ReqRow} (hr : r ∈ reqRows) {p : Payload} (hp : p &&& r.zeroBits = 0#32) :
    ∃ i, RequestMeans Cfg.defaults r.op.toNat p i ∧ i.mnemonic = r.mnemonic := by
  simp only [reqRows, List.mem_cons, List.not_mem_nil, or_false] at hr
  obtain rfl | rfl | rfl | rfl | rfl | rfl | rfl | rfl | rfl | rfl := hr
  · exact ⟨_, .wrreg ((aboveRegZero_defaults p).mpr hp), rfl⟩
  · exact ⟨_, .rdreg ((aboveRegZero_and_valueField_defaults p).mpr hp), rfl⟩
  · exact ⟨_, .rdreg16 ((aboveRegZero_and_valueField_defaults p).mpr hp), rfl⟩
  · exact ⟨_, .enable ((beq_zero_iff_mask p).mpr hp), rfl⟩
  · exact ⟨_, .disable ((beq_zero_iff_mask p).mpr hp), rfl⟩
  · exact ⟨_, .init ((beq_zero_iff_mask p).mpr hp), rfl⟩
  · exact ⟨_, .setit ((lt_four_iff_mask p).mpr hp), rfl⟩
  · exact ⟨_, .setgain (beq_iff_eq.mpr hp), rfl⟩
  · exact ⟨_, .rdchan ((beq_zero_iff_mask p).mpr hp), rfl⟩
  · exact ⟨_, .lux, rfl⟩

/-- The rows stand in the order of their opcodes, from 1 on. -/
theorem reqRows_op : ∀ k : Fin 10, k + 1 = (reqRows[k]).op.toNat := by decide

/-- A request word that means an operation has the opcode of a row and every bit 0 that the row wants 0. -/
theorem row_of_requestMeans {op : Nat} {p : Payload} {i : Instr} (h : RequestMeans Cfg.defaults op p i) :
    ∃ r ∈ reqRows, op = r.op.toNat ∧ p &&& r.zeroBits = 0#32 := by
  have row (k : Fin 10) {m : Payload} (hm : (reqRows[k]).zeroBits = m) (hp : p &&& m = 0#32) :
      ∃ r ∈ reqRows, k + 1 = r.op.toNat ∧ p &&& r.zeroBits = 0#32 :=
    ⟨_, List.getElem_mem _, reqRows_op k, hm ▸ hp⟩
  cases h with
  | wrreg hz => exact row 0 rfl ((aboveRegZero_defaults p).mp hz)
  | rdreg hz => exact row 1 rfl ((aboveRegZero_and_valueField_defaults p).mp hz)
  | rdreg16 hz => exact row 2 rfl ((aboveRegZero_and_valueField_defaults p).mp hz)
  | enable hz => exact row 3 rfl ((beq_zero_iff_mask p).mp hz)
  | disable hz => exact row 4 rfl ((beq_zero_iff_mask p).mp hz)
  | init hz => exact row 5 rfl ((beq_zero_iff_mask p).mp hz)
  | setit hz => exact row 6 rfl ((lt_four_iff_mask p).mp hz)
  | setgain hz => exact row 7 rfl (beq_iff_eq.mp hz)
  | rdchan hz => exact row 8 rfl ((beq_zero_iff_mask p).mp hz)
  | lux => exact row 9 rfl BitVec.and_zero

/-- Settles O3: a selected row fixes the opcode and the payload check of its operation. -/
theorem tableRowsDecodeToTheirOperation : Obligations.TableRowsDecodeToTheirOperation := by
  intro w r hr hs
  obtain ⟨hop, hp⟩ := (ReqRow.selects_iff hr w).mp hs
  obtain ⟨i, hi, hmnemonic⟩ := requestMeans_of_row hr hp
  exact ⟨i, decodeReq_eq_ok_iff.mpr (hop ▸ hi), hmnemonic⟩

/-- A request word that decodes selects a row. -/
theorem selects_of_decodeReq {w : ReqBits} {i : Instr} (h : decodeReq Cfg.defaults w = .ok i) :
    ∃ r ∈ reqRows, r.selects w = true := by
  obtain ⟨r, hr, hop, hp⟩ := row_of_requestMeans (decodeReq_eq_ok_iff.mp h)
  exact ⟨r, hr, (ReqRow.selects_iff hr w).mpr ⟨BitVec.eq_of_toNat_eq hop, hp⟩⟩

end Sys2Proof

/-! ### The step of a request word (R81, R92) -/

namespace Sys2Proof.Machine

/-- Settles O4: a word that selects no row does not decode, and the step of such a word is `State.refuse`. -/
theorem unmatchedRequestWordsAreOnlyAnsweredRefused : Obligations.UnmatchedRequestWordsAreOnlyAnsweredRefused := by
  intro s w rest hcfg hrun hreq hrows
  cases hw : decodeReq Cfg.defaults w with
  | ok i =>
    obtain ⟨r, hr, hsel⟩ := selects_of_decodeReq hw
    rw [hrows r hr] at hsel
    cases hsel
  | error e =>
    have he : e ≠ .notAFrame := fun h => decodeReq_ne_notAFrame Cfg.defaults w (h ▸ hw)
    rw [step_of_decode_error hrun hreq (hcfg ▸ hw) he, State.refuse, State.respond, hrun]

/-- Settles O5: each word is evaluated. -/
theorem writtenOutWordsDecodeToTheirOperation : Obligations.WrittenOutWordsDecodeToTheirOperation :=
  ⟨rfl, rfl, rfl, rfl, rfl, rfl, rfl, rfl, rfl, rfl, rfl⟩

theorem decode_eq_of_decodeTableWord {nbits w : Nat} {i : Instr} (h : decodeTableWord nbits w = some i) :
    decode Cfg.defaults (tableWord nbits w) = .ok i := by
  unfold decodeTableWord at h
  generalize decode Cfg.defaults (tableWord nbits w) = d at h ⊢
  cases d with
  | ok j =>
    cases h
    rfl
  | error e => cases h

/-- Settles O30: the placed word is the next one of an idle block. -/
theorem fetchedWordIsTheOneExecuted : Obligations.FetchedWordIsTheOneExecuted := by
  intro s nbits w i hcfg h
  have hw : decode (s.withFetchWord nbits w).cfg (tableWord nbits w) = .ok i :=
    hcfg ▸ decode_eq_of_decodeTableWord h
  exact step_of_decode_ok rfl rfl hw

/-! ### SETIT and SETGAIN (R133, R134) -/

theorem bracketedTiming_eq_fields (s : State) (g : BitVec 1) (it : BitVec 2) :
    s.bracketedTiming g it = s.afterBus 3
      (writeTrace s.addr [s.cfg.commandBit ||| s.cfg.regControl, s.cfg.ctrlOn] (s.answerAt 0).ok
        ++ writeTrace s.addr [s.cfg.commandBit ||| s.cfg.regTiming, 0#3 ++ g ++ 0#2 ++ it] (s.answerAt 1).ok
        ++ writeTrace s.addr [s.cfg.commandBit ||| s.cfg.regControl, s.cfg.ctrlOff] (s.answerAt 2).ok) := by
  simp only [State.bracketedTiming_eq, writeFrame_eq, timing_eq_fields]

/-- Settles O13: the encoding is that of O1, and the bracketed TIMING write is three bus writes. -/
theorem setitWritesBothTimingFieldsAndUpdatesIT : Obligations.SetitWritesBothTimingFieldsAndUpdatesIT := by
  refine ⟨fun it => ?_, fun it s h => ?_⟩
  · have payload : ∀ it : BitVec 2, (0#30 ++ it : Payload) = it.setWidth 32 := by decide
    rw [payload]
    exact decode_encode Tests.test_cfg_defaults (i := .setit it) rfl
  · rw [exec_eq_perform (i := .setit it) h, perform, performSetit, bracketedTiming_eq_fields, State.readG_eq]
    rfl

/-- Settles O14: as SETIT, with the roles of the two fields swapped. -/
theorem setgainWritesBothTimingFieldsAndUpdatesG : Obligations.SetgainWritesBothTimingFieldsAndUpdatesG := by
  refine ⟨fun g => ?_, fun g s h => ?_⟩
  · have payload : ∀ g : BitVec 1, (0#27 ++ (g ++ 0#4) : Payload) = g.setWidth 32 <<< 4 := by decide
    rw [payload]
    exact decode_encode Tests.test_cfg_defaults (i := .setgain g) rfl
  · rw [exec_eq_perform (i := .setgain g) h, perform, performSetgain, bracketedTiming_eq_fields, State.readIT_eq]
    rfl

end Sys2Proof.Machine

/-! ### How an operation ends: its last line answers (R84, R85) -/

namespace Sys2Proof.Machine

theorem State.idle_of_not_busy {s : State} (h : s.busy = false) : s.run = none := by
  simpa [busy] using h

theorem State.advance_of_idle {s : State} (h : s.run = none) : s.advance = s := by
  rw [advance, h, Option.map_none, ← h]

/-- Pseudocode that ends does its last act in a state that has given no response yet. -/
theorem Pseudocode.ends_by_last {i : Instr} {ls : List Line} (h : Pseudocode i ls) {s : State} {r : Running}
    (hr : s.run = some r) (hend : (runLines ls s).run = none) {f : State → State} (hf : ls.getLast? = some (.act f)) :
    ∃ u, u.responses = s.responses ∧ runLines ls s = f u := by
  induction h generalizing s r with
  | @last g hg =>
    cases hf
    exact ⟨s, rfl, State.advance_of_idle (hg.run s)⟩
  | @act g ls hg hls ih =>
    obtain ⟨l, hrun⟩ := (hg.inBody s).run_of_run hr
    rw [List.getLast?_cons_of_ne_nil hls.ne_nil] at hf
    rw [← (hg.inBody s).responses]
    exact ih (State.advance_run_of_run hrun) hend hf
  | @call c ret ls _ hls ih =>
    rw [List.getLast?_cons_of_ne_nil hls.ne_nil] at hf
    rw [runLines_call] at hend ⊢
    split at hend
    · exact ih (State.advance_run_of_run hr) hend hf
    next x _ =>
      split at hend
      next hnow =>
        rw [if_pos hnow, ← s.endCall_responses x ret]
        exact ih (State.endCall_run_of_run hr x) hend hf
      · rw [State.looked_run, State.blocked_run, hr] at hend
        cases hend

theorem exec_ends_by_last {i : Instr} {s t : State} (h : exec i s = .next t) (ht : t.run = none) {f : State → State}
    (hf : (linesOf i).getLast? = some (.act f)) : ∃ u, u.responses = s.responses ∧ t = f u := by
  rw [exec_eq_runLines] at h
  cases h
  exact (pseudocode_linesOf i).ends_by_last (s.accept_run i) ht hf

/-- What an operation may answer when it ends: a bus frame nothing, a request one response, which is BUSFAIL from a
single register access only. -/
def AnswersAtEnd (i : Instr) (rs : List Response) : Prop :=
  if i.isFrame then rs = []
  else ∃ r, rs = [r] ∧ (r.status = .ok ∨ r.status = .busFail ∧ i.isSingleAccess = true)

/-- A last act that answers as the operation may. -/
def AnswersBy (i : Instr) (f : State → State) : Prop :=
  ∀ u, ∃ rs, (f u).responses = u.responses ++ rs ∧ AnswersAtEnd i rs

theorem answersBy_ok {i : Instr} (hi : i.isFrame = false) (d : State → BitVec 32) :
    AnswersBy i fun u => u.respond .ok (d u) := fun u =>
  ⟨[⟨.ok, d u⟩], rfl, by simp [AnswersAtEnd, hi]⟩

theorem answersBy_statusOf {i : Instr} (hi : i.isFrame = false) (h1 : i.isSingleAccess = true) (ok : State → Bool)
    (d : State → BitVec 32) : AnswersBy i fun u => u.respond (statusOf (ok u)) (d u) := fun u =>
  ⟨[⟨statusOf (ok u), d u⟩], rfl, by cases h : ok u <;> simp [AnswersAtEnd, hi, h1, statusOf]⟩

theorem answersBy_frameDone {i : Instr} (hi : i.isFrame = true) : AnswersBy i State.frameDone := fun u =>
  ⟨[], u.frameDone_responses.trans (List.append_nil _).symm, by simp [AnswersAtEnd, hi]⟩

theorem linesOf_answers (i : Instr) : ∃ f, (linesOf i).getLast? = some (.act f) ∧ AnswersBy i f := by
  cases i with
  | wrreg | rdreg | rdreg16 | enable | disable => exact ⟨_, rfl, answersBy_statusOf rfl rfl _ _⟩
  | init | setit | setgain | rdchan | lux => exact ⟨_, rfl, answersBy_ok rfl _⟩
  | frameWrite | frameRead8 | frameRead16 => exact ⟨_, rfl, answersBy_frameDone rfl⟩

theorem exec_answers {i : Instr} {s t : State} (h : exec i s = .next t) (ht : t.run = none) :
    ∃ rs, t.responses = s.responses ++ rs ∧ AnswersAtEnd i rs := by
  obtain ⟨f, hf, hanswers⟩ := linesOf_answers i
  obtain ⟨u, hu, rfl⟩ := exec_ends_by_last h ht hf
  exact hu ▸ hanswers u

theorem Response.toWord_data (r : Response) : r.toWord.extractLsb' 0 32 = r.data :=
  BitVec.extractLsb'_append_eq_right

theorem Response.toWord_status (r : Response) : r.toWord.extractLsb' 32 2 = r.status.toBits :=
  BitVec.extractLsb'_append_eq_left

/-- Settles O47: the fields of the response word, and what the last line of an operation answers. -/
theorem responsesAndDiagnosticsCarryTheirCodes : Obligations.ResponsesAndDiagnosticsCarryTheirCodes := by
  refine ⟨fun r => ⟨r.toWord_data, ?ok, ?busFail, ?refused⟩, ⟨rfl, rfl, rfl, rfl⟩, fun i s t h => ?answers⟩
  case ok | busFail | refused =>
    intro h
    rw [r.toWord_status, h]
    rfl
  case answers =>
    cases ht : t.run with
    | some r =>
      have hbusy : t.busy = true := by rw [State.busy, ht, Option.isSome_some]
      have hnone : t.responses = s.responses := by
        obtain hidle | ⟨hnone, -⟩ := exec_ends_or_blocks h
        · cases hidle.symm.trans ht
        · exact hnone
      exact ⟨[], by rw [hnone, List.append_nil], by rw [if_pos (.inl hbusy), List.length_nil], nofun⟩
    | none =>
      obtain ⟨rs, hrs, hans⟩ := exec_answers h ht
      refine ⟨rs, hrs, ?_⟩
      rw [State.busy_of_idle ht]
      unfold AnswersAtEnd at hans
      split at hans
      next hframe =>
        subst hans
        exact ⟨by rw [if_pos (.inr hframe), List.length_nil], nofun⟩
      next hframe =>
        obtain ⟨r, rfl, hstatus⟩ := hans
        refine ⟨by simp [hframe], fun r' hr' => ?_⟩
        obtain rfl := List.mem_singleton.mp hr'
        rw [r'.toWord_status]
        exact hstatus.imp (congrArg Status.toBits) (.imp_left (congrArg Status.toBits))

/-! ### MEASURE (R96) -/

/-- RDCHAN, when it has ended, has answered two counts (R84, R150). -/
theorem exec_rdchan_answers {s t : State} (h : exec .rdchan s = .next t) (ht : t.run = none) :
    ∃ ch0 ch1, t.responses = s.responses ++ [⟨.ok, channelData ch0 ch1⟩] := by
  obtain ⟨u, hu, rfl⟩ := exec_ends_by_last h ht
    (f := fun u => u.respond .ok (channelData u.loc.ch0 u.loc.ch1)) rfl
  exact ⟨u.loc.ch0, u.loc.ch1, by rw [State.respond_responses, hu]⟩

/-- Settles O42: the counts of the last response are the operands, whose payload is that response's data. -/
theorem measureIsRdchanThenLuxOnItsCounts : Obligations.MeasureIsRdchanThenLuxOnItsCounts := by
  intro s t h hidle
  obtain ⟨ch0, ch1, hresp⟩ := exec_rdchan_answers h (State.idle_of_not_busy hidle)
  refine ⟨ch0, ch1, hresp, ?_, decode_lux t.cfg ch0 ch1⟩
  have h0 : (channelData ch0 ch1).extractLsb' 0 16 = ch0 := raw0Field_append ch1 ch0
  have h1 : (channelData ch0 ch1).extractLsb' 16 16 = ch1 := raw1Field_append ch1 ch0
  rw [measure, h, andThen_next]
  simp only [hidle, Bool.false_eq_true, if_false, hresp, List.getLast?_append, List.getLast?_singleton, Option.some_or,
    h0, h1]

end Sys2Proof.Machine

/-! ### The assembler (R95) -/

namespace Sys2Proof.Machine

theorem asmField_of_lt {c : Cfg} {bound : Nat} {o : AsmOperand} (h : o.value c < bound) :
    asmField c bound o = some (o.value c) := if_pos h

theorem asmField_eq_some {c : Cfg} {bound v : Nat} {o : AsmOperand} (h : asmField c bound o = some v) : v < bound := by
  unfold asmField at h
  split at h
  · cases h; assumption
  · cases h

theorem asmField_num (c : Cfg) (bound n : Nat) : asmField c bound (.num n) = if n < bound then some n else none := rfl

/-- A number below its bound is a register address (R11). -/
theorem isReg_ofNat {c : Cfg} {v : Nat} (h : v < 2 ^ c.regW) : c.IsReg (BitVec.ofNat 8 v) := by
  rw [Cfg.IsReg, BitVec.toNat_ofNat]
  exact Nat.lt_of_le_of_lt (Nat.mod_le _ _) h

/-- What the assembler produces is an operation of the machine: it checks the register operand. -/
theorem wf_of_assemble {c : Cfg} {m : AsmMnemonic} {ops : List AsmOperand} {i : Instr}
    (h : assemble c m ops = some i) : i.wf c = true := by
  unfold assemble at h
  split at h
  case h_1 =>
    obtain ⟨r, hr, h⟩ := Option.bind_eq_some_iff.mp h
    obtain ⟨v, -, h⟩ := Option.bind_eq_some_iff.mp h
    cases h
    exact decide_eq_true (isReg_ofNat (asmField_eq_some hr))
  case h_2 | h_3 =>
    obtain ⟨r, hr, rfl⟩ := Option.map_eq_some_iff.mp h
    exact decide_eq_true (isReg_ofNat (asmField_eq_some hr))
  case h_4 | h_5 | h_6 | h_9 => cases h; rfl
  case h_7 | h_8 =>
    obtain ⟨v, -, rfl⟩ := Option.map_eq_some_iff.mp h
    rfl
  case h_10 =>
    obtain ⟨a, -, h⟩ := Option.bind_eq_some_iff.mp h
    obtain ⟨b, -, h⟩ := Option.bind_eq_some_iff.mp h
    cases h
    rfl
  case h_11 => cases h

/-- Settles O43: an assembled line is well-formed, and O1 gives it back from its word. -/
theorem assembledLinesAreWellFormed : Obligations.AssembledLinesAreWellFormed := fun _ _ _ _ hc h =>
  ⟨wf_of_assemble h, decode_encode hc (wf_of_assemble h)⟩

/-! One equation for each mnemonic with operands. -/

section
variable {c : Cfg}

theorem assemble_wrreg_num (c : Cfg) (r v : Nat) : assemble c .wrreg [.num r, .num v]
    = if r < 2 ^ c.regW ∧ v < 256 then some (.wrreg (BitVec.ofNat 8 r) (BitVec.ofNat 8 v)) else none := by
  by_cases hr : r < 2 ^ c.regW <;> by_cases hv : v < 256 <;> simp [assemble, asmField_num, hr, hv]

theorem assemble_lux_num (c : Cfg) (a b : Nat) : assemble c .lux [.num a, .num b]
    = if a < 65536 ∧ b < 65536 then some (.lux (BitVec.ofNat 16 a) (BitVec.ofNat 16 b)) else none := by
  by_cases ha : a < 65536 <;> by_cases hb : b < 65536 <;> simp [assemble, asmField_num, ha, hb]

/-- A line with one number: the operation where the number is within its bound. -/
theorem map_asmField_num (c : Cfg) (bound n : Nat) (f : Nat → Instr) :
    (asmField c bound (.num n)).map f = if n < bound then some (f n) else none := by
  rw [asmField_num]
  split <;> rfl

/-- An operand that stands for a register address gives that register to each access. -/
theorem assemble_register {o : AsmOperand} {reg : RegAddr} (ho : o.value c = reg.toNat) (hreg : c.IsReg reg) :
    assemble c .rdreg [o] = some (.rdreg reg) ∧ assemble c .rdreg16 [o] = some (.rdreg16 reg)
      ∧ ∀ v : Byte, assemble c .wrreg [o, .num v.toNat] = some (.wrreg reg v) := by
  have field : asmField c (2 ^ c.regW) o = some reg.toNat := by rw [← ho]; exact asmField_of_lt (ho ▸ hreg)
  have value (v : Byte) : asmField c 256 (.num v.toNat) = some v.toNat := asmField_of_lt v.isLt
  simp [assemble, field, value]

theorem assemble_setit {o : AsmOperand} {it : BitVec 2} (ho : o.value c = it.toNat) :
    assemble c .setit [o] = some (.setit it) := by
  have field : asmField c 4 o = some it.toNat := by rw [← ho]; exact asmField_of_lt (ho ▸ it.isLt)
  simp [assemble, field]

theorem assemble_setgain {o : AsmOperand} {g : BitVec 1} (ho : o.value c = g.toNat) :
    assemble c .setgain [o] = some (.setgain g) := by
  have field : asmField c 2 o = some g.toNat := by rw [← ho]; exact asmField_of_lt (ho ▸ g.isLt)
  simp [assemble, field]

end

/-- `HIGH` is the other gain code (R95). -/
theorem one_sub_toNat : ∀ g : BitVec 1, 1 - g.toNat = (~~~g).toNat := by decide

/-- Settles O46: one equation for each mnemonic, and the value each name stands for. -/
theorem assemblerGivesTheOperationOfEachLine : Obligations.AssemblerGivesTheOperationOfEachLine := by
  intro c hc
  obtain ⟨-, -, -, -, -, hcontrol, htiming, hid, hch0, hch1, -⟩ := hc
  refine ⟨assemble_wrreg_num c, fun r => ⟨map_asmField_num c _ r _, map_asmField_num c _ r _⟩, ?registers, rfl, rfl, rfl,
    rfl, fun n => map_asmField_num c 4 n _, assemble_setit rfl, assemble_setit rfl, assemble_setit rfl,
    fun n => map_asmField_num c 2 n _, assemble_setgain rfl, assemble_setgain (one_sub_toNat c.gainLowCode),
    assemble_lux_num c⟩
  case registers =>
    intro x hx
    simp only [List.mem_cons, List.not_mem_nil, or_false] at hx
    obtain rfl | rfl | rfl | rfl | rfl := hx
    · exact assemble_register rfl hcontrol
    · exact assemble_register rfl htiming
    · exact assemble_register rfl hid
    · exact assemble_register rfl hch0
    · exact assemble_register rfl hch1

end Sys2Proof.Machine

/-! ### What a step takes of the words and the looks to come

No act of an operation touches either, so the lines of an operation take one look for each call and no word. -/

namespace Sys2Proof.Machine

/-- The words to come, and what is needed to know the looks to come. -/
def State.inputs (s : State) : List PortWord × List Bool × Nat := (s.requests, s.returns, s.looks)

/-- A line whose act touches no input. -/
def Line.KeepsInputs : Line → Prop
  | .act f => ∀ s, (f s).inputs = s.inputs
  | .call _ _ => True

def KeepInputs (ls : List Line) : Prop := ∀ l ∈ ls, l.KeepsInputs

namespace State

variable (s : State)

@[simp] theorem advance_inputs : s.advance.inputs = s.inputs := rfl

@[simp] theorem setLoc_inputs (l : Locals) : (s.setLoc l).inputs = s.inputs := rfl

@[simp] theorem diag_inputs (d : Diag) : (s.diag d).inputs = s.inputs := rfl

@[simp] theorem writeG_inputs (v : BitVec 1) : (s.writeG v).inputs = s.inputs := rfl

@[simp] theorem writeIT_inputs (v : BitVec 2) : (s.writeIT v).inputs = s.inputs := rfl

@[simp] theorem writePKG_inputs (v : BitVec 2) : (s.writePKG v).inputs = s.inputs := rfl

@[simp] theorem respond_inputs (st : Status) (d : BitVec 32) : (s.respond st d).inputs = s.inputs := rfl

@[simp] theorem frameDone_inputs : s.frameDone.inputs = s.inputs := rfl

@[simp] theorem checkPower_inputs (c : Byte) : (s.checkPower c).inputs = s.inputs := by
  unfold checkPower
  split <;> rfl

@[simp] theorem checkPackage_inputs (v : BitVec 2) : (s.checkPackage v).inputs = s.inputs := by
  unfold checkPackage
  split <;> rfl

variable {s} {t : State}

theorem requests_of_inputs (h : t.inputs = s.inputs) : t.requests = s.requests := congrArg (·.1) h

theorem Returns.of_inputs {n : Nat} (hs : s.Returns n) (h : t.inputs = s.inputs) : t.Returns n :=
  hs.congr (congrArg (·.2.1) h) (congrArg (·.2.2) h)

theorem complete_requests (s : State) (x : Call) : (s.complete x).requests = s.requests := by cases x <;> rfl

end State

/-! The lines that the operations share, and those of each operation. -/

@[simp] theorem keepsInputs_act {f : State → State} : (Line.act f).KeepsInputs ↔ ∀ s, (f s).inputs = s.inputs := .rfl

@[simp] theorem keepsInputs_call (c : State → Option Call) (ret : Answer → Locals → Locals) :
    (Line.call c ret).KeepsInputs := trivial

@[simp] theorem keepInputs_nil : KeepInputs [] := List.forall_mem_nil _

@[simp] theorem keepInputs_cons {l : Line} {ls : List Line} : KeepInputs (l :: ls) ↔ l.KeepsInputs ∧ KeepInputs ls :=
  List.forall_mem_cons

@[simp] theorem keepInputs_append {ls ls' : List Line} : KeepInputs (ls ++ ls') ↔ KeepInputs ls ∧ KeepInputs ls' :=
  List.forall_mem_append

@[simp] theorem keepInputs_memWriteLines (reg : Cfg → RegAddr) (v : State → Byte) :
    KeepInputs (memWriteLines reg v) := by
  simp [memWriteLines, lineBusWrite, lineWriteFail, apply_ite State.inputs]

@[simp] theorem keepInputs_memRead8Lines (reg : Cfg → RegAddr) : KeepInputs (memRead8Lines reg) := by
  simp [memRead8Lines, lineBusWrite, lineByteNoWrite, lineByteRead, lineByteNoRead, apply_ite State.inputs]

@[simp] theorem keepInputs_memRead16Lines (reg : Cfg → RegAddr) : KeepInputs (memRead16Lines reg) := by
  simp [memRead16Lines, lineBusWrite, lineWordNoWrite, lineWordRead, lineWordNoRead, apply_ite State.inputs]

@[simp] theorem keepsInputs_lineSet (f : State → Locals) : (lineSet f).KeepsInputs := fun s => s.setLoc_inputs _

@[simp] theorem keepsInputs_lineRespond (st : State → Status) (d : State → BitVec 32) :
    (lineRespond st d).KeepsInputs := fun s => s.respond_inputs _ _

@[simp] theorem keepsInputs_lineFrameDone : lineFrameDone.KeepsInputs := State.frameDone_inputs

theorem keepInputs_linesOf (i : Instr) : KeepInputs (linesOf i) := by
  cases i with
  | wrreg reg v => simp [linesOf, wrregLines]
  | rdreg reg => simp [linesOf, rdregLines]
  | rdreg16 reg => simp [linesOf, rdreg16Lines]
  | enable => simp [linesOf, enableLines, powerUpLines]
  | disable => simp [linesOf, disableLines, powerDownLines]
  | init => simp [linesOf, initLines, powerUpLines, powerDownLines]
  | setit it => simp [linesOf, setitLines, powerUpLines, powerDownLines, lineReadG]
  | setgain g => simp [linesOf, setgainLines, powerUpLines, powerDownLines, lineReadIT]
  | rdchan => simp [linesOf, rdchanLines, powerUpLines, powerDownLines, lineReadIT, lineDelay]
  | lux raw0 raw1 => simp [linesOf, luxLines, lineReadIT, lineReadG, lineReadPKG]
  | frameWrite reg v => simp [linesOf, frameWriteLines]
  | frameRead8 reg => simp [linesOf, frameRead8Lines]
  | frameRead16 reg => simp [linesOf, frameRead16Lines]

theorem KeepInputs.drop {ls : List Line} (h : KeepInputs ls) (k : Nat) : KeepInputs (ls.drop k) := fun l hl =>
  h l (List.mem_of_mem_drop hl)

/-- Running lines takes no word. -/
theorem runLines_requests {ls : List Line} (h : KeepInputs ls) (s : State) :
    (runLines ls s).requests = s.requests :=
  runLines_keeps (fun t => t.requests = s.requests) ls
    (fun f hf t ht => (State.requests_of_inputs (h (.act f) hf t)).trans ht)
    (fun _ ht => ht) (fun _ _ _ t x _ _ ht => (t.complete_requests x).trans ht) (fun _ ht => ht) s rfl

/-- Running lines takes at most one look for each call. -/
theorem runLines_returns {ls : List Line} (h : KeepInputs ls) {s : State} {n : Nat}
    (hs : s.Returns (n + ls.countP Line.isCall)) : (runLines ls s).Returns n := by
  induction ls generalizing s with
  | nil => exact hs
  | cons l ls ih =>
    obtain ⟨hl, hls⟩ := keepInputs_cons.mp h
    cases l with
    | act f => exact ih hls (hs.of_inputs (t := (f s).advance) (hl s))
    | call c ret =>
      rw [List.countP_cons_of_pos rfl, ← Nat.add_assoc] at hs
      rw [runLines_call]
      split
      · exact ih hls (hs.mono (Nat.le_succ _))
      · rw [if_pos hs.now]
        exact ih hls (hs.endCall _ ret)

/-! ### Runs (R84, R241) -/

/-- The host has request words to present and no other. -/
def State.PresentsRequests (s : State) : Prop := ∀ w ∈ s.requests, ∃ b, w = .req b

/-- A step, of a busy block too, presents at most the next word. -/
theorem step_requests_suffix {s t : State} (h : step s = .next t) : t.requests <:+ s.requests := by
  obtain ⟨r, -, -, rfl⟩ | ⟨-, -, rfl⟩ | ⟨w, rest, -, hq, ⟨i, -, rfl⟩ | ⟨-, rfl⟩⟩ := step_eq_next h
  · rw [runLines_requests ((keepInputs_linesOf r.op).drop r.seq)]
  · exact List.suffix_rfl
  · rw [runLines_requests (keepInputs_linesOf i), State.accept_requests, hq]
    exact List.suffix_cons w rest
  · rw [hq]
    exact List.suffix_cons w rest

/-- A block that is idle or blocked, with request words to come, goes on to such a state: it never stops. -/
theorem step_of_settled {s : State} (hs : s.Settled) (hq : s.PresentsRequests) :
    ∃ t, step s = .next t ∧ t.Settled ∧ t.PresentsRequests := by
  have goes_on : ∃ t, step s = .next t := by
    obtain hr | ⟨x, hx⟩ := hs
    · cases hreq : s.requests with
      | nil => exact ⟨s, step_of_no_request hr hreq⟩
      | cons w rest =>
        obtain ⟨b, rfl⟩ := hq w (hreq ▸ List.mem_cons_self)
        cases hw : decodeReq s.cfg b with
        | ok i => exact ⟨_, (step_of_decode_ok hr hreq hw).trans (exec_eq_runLines i _)⟩
        | error e => exact ⟨_, step_of_decode_error hr hreq hw fun h => decodeReq_ne_notAFrame s.cfg b (h ▸ hw)⟩
    · obtain ⟨i, k, -, hstep⟩ := step_of_pendingCall hx
      exact ⟨_, hstep⟩
  obtain ⟨t, ht⟩ := goes_on
  obtain ⟨-, -, hsettled⟩ := stepKeepsAddressAndParametersAndEndsIdleOrWaiting s t ht
  exact ⟨t, ht, hsettled, fun w hw => hq w ((step_requests_suffix ht).subset hw)⟩

theorem core_run_of_settled (k : Nat) {s : State} (hs : s.Settled) (hq : s.PresentsRequests) :
    ∃ t, Host.Core.run Sys2Proof.core k s = .next t := by
  induction k generalizing s with
  | zero => exact ⟨s, rfl⟩
  | succ k ih =>
    obtain ⟨t, ht, hsettled, hreq⟩ := step_of_settled hs hq
    obtain ⟨u, hu⟩ := ih hsettled hreq
    exact ⟨u, (run_succ_of_next core ht k).trans hu⟩

/-- Idle in `t`, with the first `k` words of `s` presented and one response given for each. -/
structure Served (k : Nat) (s t : State) : Prop where
  run : t.run = none
  requests : t.requests = s.requests.drop k
  responses : t.responses.length = s.responses.length + min k s.requests.length

theorem Served.trans {k : Nat} {s t u : State} (h : Served 1 s t) (h' : Served k t u) : Served (k + 1) s u where
  run := h'.run
  requests := by rw [h'.requests, h.requests, List.drop_drop, Nat.add_comm]
  responses := by
    rw [h'.responses, h.responses, h.requests, List.length_drop]
    omega

/-- A request that an idle block executes is answered in its step where its calls are answered, which takes at most
eight looks. -/
theorem exec_serves {s : State} {b : ReqBits} {rest : List PortWord} {i : Instr} {n : Nat}
    (hq : s.requests = .req b :: rest) (hi : decodeReq s.cfg b = .ok i) (hs : s.Returns (n + 8)) :
    ∃ t, exec i { s with requests := rest } = .next t ∧ Served 1 s t ∧ t.Returns n := by
  have calls : n + waitBound i ≤ n + 8 := Nat.add_le_add_left (waitBound_le_eight i) n
  have answered : s.Returns (n + waitBound i) := hs.mono calls
  obtain ⟨t, ht, hidle⟩ := exec_ends (i := i) (s := { s with requests := rest })
    (answered.mono (Nat.le_add_left _ _))
  have hrun := State.idle_of_not_busy hidle
  obtain ⟨rs, hrs, hans⟩ := exec_answers ht hrun
  rw [AnswersAtEnd, (decodeReq_eq_ok_iff.mp hi).isFrame_eq_false] at hans
  obtain ⟨r, rfl, -⟩ := hans
  have heq : t = runLines (linesOf i) (State.accept { s with requests := rest } i) := by
    rw [exec_eq_runLines] at ht
    cases ht
    rfl
  have hrequests : t.requests = rest := by rw [heq, runLines_requests (keepInputs_linesOf i), State.accept_requests]
  refine ⟨t, ht, ⟨hrun, ?_, ?_⟩, ?_⟩
  · rw [hrequests, hq, List.drop_one, List.tail_cons]
  · simp [hrs, hq]
  · rw [heq]
    exact runLines_returns (keepInputs_linesOf i) ((countP_isCall_linesOf i).symm ▸ answered)

/-- A step of an idle block presents the next word, if there is one, and answers it. -/
theorem step_serves {s : State} {n : Nat} (hr : s.run = none) (hq : s.PresentsRequests) (hs : s.Returns (n + 8)) :
    ∃ t, step s = .next t ∧ Served 1 s t ∧ t.Returns n := by
  cases hreq : s.requests with
  | nil => exact ⟨s, step_of_no_request hr hreq, ⟨hr, by simp [hreq], by simp [hreq]⟩, hs.mono (Nat.le_add_right _ _)⟩
  | cons w rest =>
    obtain ⟨b, rfl⟩ := hq w (hreq ▸ List.mem_cons_self)
    cases hw : decodeReq s.cfg b with
    | ok i =>
      rw [step_of_decode_ok hr hreq hw]
      exact exec_serves hreq hw hs
    | error e =>
      have he : e ≠ .notAFrame := fun h => decodeReq_ne_notAFrame s.cfg b (h ▸ hw)
      exact ⟨_, step_of_decode_error hr hreq hw he, ⟨rfl, by rw [hreq]; rfl, by simp [State.refuse, hreq]⟩,
        hs.mono (Nat.le_add_right _ _)⟩

theorem core_run_serves (k : Nat) {s : State} (hr : s.run = none) (hq : s.PresentsRequests) (hs : s.Returns (8 * k)) :
    ∃ t, Host.Core.run Sys2Proof.core k s = .next t ∧ Served k s t := by
  induction k generalizing s with
  | zero => exact ⟨s, rfl, hr, rfl, by simp⟩
  | succ k ih =>
    obtain ⟨t, ht, hserved, hreturns⟩ := step_serves hr hq hs
    have hreq : t.PresentsRequests := fun w hw => hq w ((step_requests_suffix ht).subset hw)
    obtain ⟨u, hu, hserved'⟩ := ih hserved.run hreq hreturns
    exact ⟨u, (run_succ_of_next core ht k).trans hu, hserved.trans hserved'⟩

/-- Settles O40: a settled state leads to a settled one, and where the calls are answered each step serves a word. -/
theorem runsCompleteWithOneResponsePerRequest : Obligations.RunsCompleteWithOneResponsePerRequest := by
  intro s k hr hq
  obtain ⟨t, ht⟩ := core_run_of_settled k (.inl hr) hq
  refine ⟨t, ht, fun hs => ?_⟩
  obtain ⟨u, hu, hrun, hrequests, hresponses⟩ := core_run_serves k hr hq hs
  cases hu.symm.trans ht
  exact ⟨hrun, hrequests, hresponses⟩

end Sys2Proof.Machine

/-! ### The register accesses WRREG, RDREG and RDREG16 (R110 to R112)

The encodings are those of O1. A read needs no more answers than the calls it makes: one where its command byte is
answered `fail`. -/

namespace Sys2Proof.Machine

/-- The payload of a register access under the default `REG_W` of four bits: the register stands in bits 11:8 (R83). -/
theorem payload_eq_regPayload (r : BitVec 4) (v : Byte) :
    (0#20 ++ (r ++ v) : Payload) = regPayload (r.setWidth 8) v := by
  have fields : (0#20 ++ (r ++ v) : Payload).toNat = (r ++ v : BitVec 12).toNat :=
    (toNat_append_eq ..).trans (by simp)
  have low : (r ++ v : BitVec 12).toNat = r.toNat * 2 ^ 8 + v.toNat := toNat_append_eq ..
  apply BitVec.eq_of_toNat_eq
  rw [fields, low, toNat_regPayload, BitVec.toNat_setWidth_of_le (by decide), show 256 = 2 ^ 8 from rfl]

theorem isReg_defaults (r : BitVec 4) : Cfg.defaults.IsReg (r.setWidth 8) := by
  rw [Cfg.IsReg, BitVec.toNat_setWidth_of_le (by decide)]
  exact r.isLt

theorem exec_rdreg {s : State} (reg : RegAddr) (h : s.Returns (s.readCalls 0)) :
    exec (.rdreg reg) s = .next (performRdreg reg s) := by
  rw [exec_eq_runLines, State.accept_eq_midway, linesOf, rdregLines, runLines_memRead8Lines _ _ _ _ _ _ h,
    runLines_lineRespond]
  rfl

theorem exec_rdreg16 {s : State} (reg : RegAddr) (h : s.Returns (s.readCalls 0)) :
    exec (.rdreg16 reg) s = .next (performRdreg16 reg s) := by
  rw [exec_eq_runLines, State.accept_eq_midway, linesOf, rdreg16Lines, runLines_memRead16Lines _ _ _ _ _ _ h,
    runLines_lineRespond]
  rfl

theorem performWrreg_eq (reg : RegAddr) (v : Byte) (s : State) :
    performWrreg reg v s = s.afterRequest 1 (writeTrace s.addr (writeFrame s.cfg reg v) (s.answerAt 0).ok)
      (statusOf (s.answerAt 0).ok) 0 := by
  rw [performWrreg, State.memWrite_eq, State.afterBus_respond]

theorem performRdreg_eq (reg : RegAddr) (s : State) :
    performRdreg reg s = s.afterRequest (s.readCalls 0) (s.readTrace 0 (readFrame8 s.cfg reg) 1)
      (statusOf (s.readData 0 1).isSome) ((byteOf (s.readData 0 1)).setWidth 32) := by
  rw [performRdreg, State.memRead8_eq, isSome_map_value, orZero_map_byteOf, State.afterBus_respond]

theorem performRdreg16_eq (reg : RegAddr) (s : State) :
    performRdreg16 reg s = s.afterRequest (s.readCalls 0) (s.readTrace 0 (readFrame16 s.cfg reg) 2)
      (statusOf (s.readData 0 2).isSome) ((word16Of (s.readData 0 2)).setWidth 32) := by
  rw [performRdreg16, State.memRead16_eq, isSome_map_value, orZero_map_word16Of, State.afterBus_respond]

/-- Settles O7: the encoding is that of O1, and the operation is one `MemWrite` and its status. -/
theorem wrregWritesOneRegisterAndAnswersItsStatus : Obligations.WrregWritesOneRegisterAndAnswersItsStatus := by
  refine ⟨fun r v => ?_, fun reg v s h => ?_⟩
  · rw [payload_eq_regPayload]
    exact decode_encode Tests.test_cfg_defaults (i := .wrreg _ v) (decide_eq_true (isReg_defaults r))
  · rw [exec_eq_perform (i := .wrreg reg v) h, perform, performWrreg_eq, writeFrame_eq, statusOf]

/-- Settles O8: the encoding is that of O1, and the operation is one `MemRead(reg, 1)` and its status. -/
theorem rdregReadsOneByteOrZero : Obligations.RdregReadsOneByteOrZero := by
  refine ⟨fun r => ?_, fun reg s h => ?_⟩
  · rw [payload_eq_regPayload]
    exact decode_encode Tests.test_cfg_defaults (i := .rdreg _) (decide_eq_true (isReg_defaults r))
  · rw [exec_rdreg reg h, performRdreg_eq, readFrame8_eq, statusOf]

/-- Settles O9: the encoding is that of O1, and the operation is one `MemRead(reg, 2)` and its status. -/
theorem rdreg16ReadsOneWordLowByteFirstOrZero : Obligations.Rdreg16ReadsOneWordLowByteFirstOrZero := by
  refine ⟨fun r => ?_, fun reg s h => ?_⟩
  · rw [payload_eq_regPayload]
    exact decode_encode Tests.test_cfg_defaults (i := .rdreg16 _) (decide_eq_true (isReg_defaults r))
  · rw [exec_rdreg16 reg h, performRdreg16_eq, readFrame16_eq, statusOf]

end Sys2Proof.Machine

/-! ### How many calls, diagnostics and delays an operation adds (R113, R200, R205)

`Spends n ls` says that lines, run from inside any operation, add at most the calls and diagnostics of `n`, and its
delays exactly when they come to the end. Each kind of line has one rule for it, and the bounds of an operation are the
sum over its lines. -/

namespace Sys2Proof.Machine

/-- How many bus calls, diagnostics and delays. -/
abbrev Tally := Nat × Nat × Nat

/-- How many bus calls, diagnostics and delays stand in a trace. -/
def tally (es : List Event) : Tally := (es.countP Event.isBusCall, es.countP Event.isDiag, es.countP Event.isDelay)

/-- Events of which there are at most as many as the tally says, and of delays just as many. -/
def Within (n : Tally) (es : List Event) : Prop := tally es ≤ n ∧ (tally es).2.2 = n.2.2

/-- From `s` to `t` the trace has grown by at most `n`, and by all its delays where the operation is over. -/
def Adds (n : Tally) (s t : State) : Prop :=
  ∃ es, t.trace = s.trace ++ es ∧ tally es ≤ n ∧ (t.busy = false → (tally es).2.2 = n.2.2)

/-- Lines that, run from inside any operation, add at most `n`. -/
def Spends (n : Tally) (ls : List Line) : Prop := ∀ s i k l, Adds n s (runLines ls (s.midway i k l))

/-- One call of a read is within the tally of the whole read and of what follows it. -/
theorem one_call_le (n : Tally) : ((1, 0, 0) : Tally) ≤ (2, 1, 0) + n :=
  le_add_of_le_of_nonneg (by decide) zero_le

theorem tally_append (es fs : List Event) : tally (es ++ fs) = tally es + tally fs := by
  simp only [tally, List.countP_append, Prod.mk_add_mk]

/-! What a register access adds, as its trace says (R54 to R56). -/

theorem within_writeTrace (addr : Nat) (frame : List Byte) (ok : Bool) :
    Within (1, 1, 0) (writeTrace addr frame ok) := by
  cases ok with
  | true => exact ⟨show (1, 0, 0) ≤ ((1, 1, 0) : Tally) by decide, rfl⟩
  | false => exact ⟨le_refl _, rfl⟩

theorem within_readTrace (s : State) (frame : List Byte) (n : Nat) : Within (2, 1, 0) (s.readTrace 0 frame n) := by
  unfold State.readTrace
  cases (s.answerAt 0).ok with
  | true =>
    cases s.readData 0 n with
    | some bytes => exact ⟨show (2, 0, 0) ≤ ((2, 1, 0) : Tally) by decide, rfl⟩
    | none => exact ⟨le_refl _, rfl⟩
  | false => exact ⟨show (1, 1, 0) ≤ ((2, 1, 0) : Tally) by decide, rfl⟩

namespace Adds

variable {m n : Tally} {s t u : State} {es : List Event}

theorem prepend (hu : u.trace = s.trace ++ es) (hes : Within m es) (h : Adds n u t) : Adds (m + n) s t := by
  obtain ⟨hm, hdelays⟩ := hes
  obtain ⟨fs, ht, hn, hend⟩ := h
  refine ⟨es ++ fs, by rw [ht, hu, List.append_assoc], ?_, fun hidle => ?_⟩ <;> rw [tally_append]
  · exact add_le_add hm hn
  · exact congrArg₂ (· + ·) hdelays (hend hidle)

/-- An operation blocked in a call has its delays yet to come. -/
theorem waitingAt (hu : u.trace = s.trace ++ es) (hes : tally es ≤ n) (i : Instr) (k : Nat) (l : Locals) :
    Adds n s (u.waitingAt i k l) :=
  ⟨es, hu, hes, nofun⟩

end Adds

/-! ### Calls that are not answered -/

section
variable {s : State} (i : Instr) (k : Nat) (l : Locals)

theorem State.returns_one_of_returnsNow (h : s.returnsNow = true) : s.Returns 1 := fun
  | 0, _ => s.returnsNow_eq_returnsAt_zero ▸ h

theorem State.returns_two_of_returnsNow (h : s.returnsNow = true) (h1 : s.returnsAt 1 = true) : s.Returns 2 := fun
  | 0, _ => s.returnsNow_eq_returnsAt_zero ▸ h
  | 1, _ => h1

/-- A register read whose calls are not both answered blocks in one of them: in the command byte, or, where that was
written, in the read. So it adds one call at most. -/
theorem adds_of_unanswered_read {n : Tally} (hn : (1, 0, 0) ≤ n) {frame : State → List Byte} {f : State → State}
    {c : State → Option Call} {x : Call} {ret : Answer → Locals → Locals} {ls : List Line}
    (hf : ∀ t, t.loc.ok = true → f t = t) (hc : ∀ t, t.loc.ok = true → c t = some x)
    (h : ¬ s.Returns (s.readCalls 0)) :
    Adds n s (runLines (lineBusWrite frame :: .act f :: .call c ret :: ls) (s.midway i k l)) := by
  cases hnow : s.returnsNow with
  | false =>
    rw [runLines_lineBusWrite_blocks _ _ _ _ _ _ hnow]
    exact .waitingAt (List.append_nil _).symm zero_le _ _ _
  | true =>
    have hok : (s.answerAt 0).ok = true := by
      by_contra hok
      rw [State.readCalls, if_neg hok] at h
      exact h (State.returns_one_of_returnsNow hnow)
    have hread (es : List Event) : (s.afterBus 1 es).returnsNow = false := by
      rw [State.readCalls, if_pos hok] at h
      rw [State.returnsNow_eq_returnsAt_zero, State.afterBus_returnsAt, ← Bool.not_eq_true]
      exact fun hread => h (State.returns_two_of_returnsNow hnow hread)
    rw [runLines_lineBusWrite _ _ _ _ _ _ hnow, runLines_act, hf _ ?act, State.midway_advance,
      runLines_call, hc _ ?call]
    case act | call => exact hok
    simp only [State.midway_returnsNow, hread, Bool.false_eq_true, if_false, State.midway_blocked,
      State.waitingAt_looked]
    exact .waitingAt rfl hn _ _ _

end

/-! ### What each kind of line spends -/

namespace Spends

variable {m n : Tally} {ls : List Line}

theorem of_eq (h : Spends m ls) (hmn : m = n) : Spends n ls := hmn ▸ h

theorem respond {st : State → Status} {d : State → BitVec 32} : Spends 0 [lineRespond st d] := fun _ _ _ _ =>
  ⟨[], (List.append_nil _).symm, le_refl _, fun _ => rfl⟩

theorem frameDone : Spends 0 [lineFrameDone] := fun _ _ _ _ =>
  ⟨[], (List.append_nil _).symm, le_refl _, fun _ => rfl⟩

theorem set {f : State → Locals} (h : Spends n ls) : Spends n (lineSet f :: ls) := fun s i k _ => h s i (k + 1) _

theorem writeG {v : State → BitVec 1} (h : Spends n ls) : Spends n (.act (fun s => s.writeG (v s)) :: ls) :=
  fun s i k l => h (s.writeG _) i (k + 1) l

theorem writeIT {v : State → BitVec 2} (h : Spends n ls) : Spends n (.act (fun s => s.writeIT (v s)) :: ls) :=
  fun s i k l => h (s.writeIT _) i (k + 1) l

theorem writePKG {v : State → BitVec 2} (h : Spends n ls) : Spends n (.act (fun s => s.writePKG (v s)) :: ls) :=
  fun s i k l => h (s.writePKG _) i (k + 1) l

/-! The power check and the package check each raise at most one diagnostic (R194, R195). -/

theorem checkPower {c : State → Byte} (h : Spends n ls) :
    Spends ((0, 1, 0) + n) (.act (fun s => s.checkPower (c s)) :: ls) := fun s i k l => by
  rw [runLines_act, State.midway_checkPower, State.midway_advance, State.checkPower_eq]
  refine (h _ i _ _).prepend rfl ?_
  split <;> exact ⟨by decide, rfl⟩

theorem checkPackage {v : State → BitVec 2} (h : Spends n ls) :
    Spends ((0, 1, 0) + n) (.act (fun s => s.checkPackage (v s)) :: ls) := fun s i k l => by
  rw [runLines_act, State.midway_checkPackage, State.midway_advance, State.checkPackage_eq]
  refine (h _ i _ _).prepend rfl ?_
  split <;> exact ⟨by decide, rfl⟩

theorem delay {d : State → Nat} (h : Spends n ls) : Spends ((0, 0, 1) + n) (lineDelay d :: ls) := fun s i k l => by
  cases hnow : s.returnsNow with
  | false =>
    rw [runLines_lineDelay_blocks _ _ _ _ _ _ hnow]
    exact .waitingAt (List.append_nil _).symm zero_le _ _ _
  | true =>
    rw [runLines_lineDelay _ _ _ _ _ _ hnow]
    exact (h _ i _ _).prepend rfl ⟨le_refl _, rfl⟩

theorem memWrite {reg : Cfg → RegAddr} {v : State → Byte} (h : Spends n ls) :
    Spends ((1, 1, 0) + n) (memWriteLines reg v ++ ls) := fun s i k l => by
  cases hnow : s.returnsNow with
  | false =>
    rw [memWriteLines, List.cons_append, runLines_lineBusWrite_blocks _ _ _ _ _ _ hnow]
    exact .waitingAt (List.append_nil _).symm zero_le _ _ _
  | true =>
    rw [runLines_memWriteLines _ _ _ _ _ _ _ (State.returns_one_of_returnsNow hnow), State.memWrite_eq]
    exact (h _ i _ _).prepend rfl (within_writeTrace ..)

theorem powerUp (h : Spends n ls) : Spends ((1, 1, 0) + n) (powerUpLines ++ ls) := h.memWrite

theorem powerDown (h : Spends n ls) : Spends ((1, 1, 0) + n) (powerDownLines ++ ls) := h.memWrite

theorem memRead8 {reg : Cfg → RegAddr} (h : Spends n ls) :
    Spends ((2, 1, 0) + n) (memRead8Lines reg ++ ls) := fun s i k l => by
  by_cases hans : s.Returns (s.readCalls 0)
  · rw [runLines_memRead8Lines _ _ _ _ _ _ hans, State.memRead8_eq]
    exact (h _ i _ _).prepend rfl (within_readTrace ..)
  · exact adds_of_unanswered_read i k l (one_call_le n) (fun _ hok => if_pos hok) (fun _ hok => if_pos hok) hans

theorem memRead16 {reg : Cfg → RegAddr} (h : Spends n ls) :
    Spends ((2, 1, 0) + n) (memRead16Lines reg ++ ls) := fun s i k l => by
  by_cases hans : s.Returns (s.readCalls 0)
  · rw [runLines_memRead16Lines _ _ _ _ _ _ hans, State.memRead16_eq]
    exact (h _ i _ _).prepend rfl (within_readTrace ..)
  · exact adds_of_unanswered_read i k l (one_call_le n) (fun _ hok => if_pos hok) (fun _ hok => if_pos hok) hans

end Spends

/-- The bounds of each operation are the sum of what its lines spend. -/
theorem spends_linesOf (i : Instr) : Spends (busCallBound i, diagBound i, delayCount i) (linesOf i) := by
  cases i <;> simp only [linesOf, wrregLines, rdregLines, rdreg16Lines, enableLines, disableLines, initLines,
    setitLines, setgainLines, rdchanLines, luxLines, frameWriteLines, frameRead8Lines, frameRead16Lines,
    List.append_assoc, List.cons_append, List.nil_append]
  case wrreg => exact .of_eq (.memWrite .respond) rfl
  case rdreg => exact .of_eq (.memRead8 .respond) rfl
  case rdreg16 => exact .of_eq (.memRead16 .respond) rfl
  case enable => exact .of_eq (.powerUp .respond) rfl
  case disable => exact .of_eq (.powerDown .respond) rfl
  case init =>
    exact .of_eq (.powerUp <| .memRead8 <| .checkPower <| .memRead8 <| .writePKG <| .memRead8 <| .writeG <| .writeIT <|
      .powerDown .respond) rfl
  case setit => exact .of_eq (.set <| .powerUp <| .memWrite <| .powerDown <| .writeIT .respond) rfl
  case setgain => exact .of_eq (.set <| .powerUp <| .memWrite <| .powerDown <| .writeG .respond) rfl
  case rdchan =>
    exact .of_eq (.set <| .powerUp <| .delay <| .memRead16 <| .set <| .memRead16 <| .set <| .powerDown .respond) rfl
  case lux =>
    exact .of_eq (.set <| .set <| .set <| .set <| .set <| .set <| .set <| .set <| .checkPackage <| .set <| .set <|
      .set <| .set <| .set .respond) rfl
  case frameWrite => exact .of_eq (.memWrite .frameDone) rfl
  case frameRead8 => exact .of_eq (.memRead8 .frameDone) rfl
  case frameRead16 => exact .of_eq (.memRead16 .frameDone) rfl

/-- Settles O35: an operation runs its lines from its acceptance, and they spend no more than its bounds. -/
theorem callsAndDiagnosticsOfAnOperationAreBounded : Obligations.CallsAndDiagnosticsOfAnOperationAreBounded := by
  intro i s t h
  rw [exec_eq_runLines, State.accept_eq_midway] at h
  cases h
  obtain ⟨es, ht, ⟨hcalls, hdiags, hdelays⟩, hend⟩ := spends_linesOf i s i 0 {}
  exact ⟨es, ht, hcalls, hdiags, hdelays, hend⟩

end Sys2Proof.Machine

/-! ### ENABLE, DISABLE and INIT (R130 to R132)

INIT needs no more answers than the calls it makes: a read whose command byte is answered `fail` makes one call.
`Past s n u` counts the calls made, and each access is rewritten where its own are answered. -/

namespace Sys2Proof.Machine

theorem performEnable_eq (s : State) :
    performEnable s = s.afterRequest 1 (writeTrace s.addr (writeFrame s.cfg s.cfg.regControl s.cfg.ctrlOn)
      (s.answerAt 0).ok) (statusOf (s.answerAt 0).ok) 0 := by
  rw [performEnable, State.powerUp_eq, State.afterBus_respond]

theorem performDisable_eq (s : State) :
    performDisable s = s.afterRequest 1 (writeTrace s.addr (writeFrame s.cfg s.cfg.regControl s.cfg.ctrlOff)
      (s.answerAt 0).ok) (statusOf (s.answerAt 0).ok) 0 := by
  rw [performDisable, State.powerDown_eq, State.afterBus_respond]

/-- Settles O11: the operation is one write of CONTROL and its status. -/
theorem enableAndDisableWriteTheirSentinel : Obligations.EnableAndDisableWriteTheirSentinel := by
  refine ⟨rfl, rfl, fun s h => ⟨?_, ?_⟩⟩
  · rw [exec_eq_perform (i := .enable) h, perform, performEnable_eq, writeFrame_eq, statusOf]
  · rw [exec_eq_perform (i := .disable) h, perform, performDisable_eq, writeFrame_eq, statusOf]

/-- `u` is `n` bus calls on from `s`: the answers to come are those of `s` from the `n`-th on. -/
structure Past (s : State) (n : Nat) (u : State) : Prop where
  answerAt : ∀ k, u.answerAt k = s.answerAt (n + k)
  returnsAt : ∀ k, u.returnsAt k = s.returnsAt (n + k)

namespace Past

variable {s u : State} {n m : Nat}

theorem refl (s : State) : Past s 0 s := ⟨fun k => by rw [Nat.zero_add], fun k => by rw [Nat.zero_add]⟩

theorem afterBus (h : Past s n u) (m : Nat) (es : List Event) : Past s (n + m) (u.afterBus m es) where
  answerAt k := by rw [State.afterBus_answerAt, h.answerAt, Nat.add_assoc]
  returnsAt k := by rw [State.afterBus_returnsAt, h.returnsAt, Nat.add_assoc]

theorem readCalls (h : Past s n u) : u.readCalls 0 = s.readCalls n := by
  rw [State.readCalls, State.readCalls, h.answerAt, Nat.add_zero]

theorem memWrite (h : Past s n u) (reg : RegAddr) (v : Byte) : Past s (n + 1) (u.memWrite reg v).2 := by
  rw [State.memWrite_eq]
  exact h.afterBus 1 _

theorem memRead8 (h : Past s n u) (reg : RegAddr) : Past s (n + s.readCalls n) (u.memRead8 reg).2 := by
  rw [State.memRead8_eq, ← h.readCalls]
  exact h.afterBus _ _

theorem checkPower (h : Past s n u) (c : Byte) : Past s n (u.checkPower c) := by
  rw [State.checkPower_eq]
  exact h.afterBus 0 _

/-! A write of a device register makes no call. -/

theorem writeG (h : Past s n u) (v : BitVec 1) : Past s n (u.writeG v) := ⟨h.answerAt, h.returnsAt⟩

theorem writeIT (h : Past s n u) (v : BitVec 2) : Past s n (u.writeIT v) := ⟨h.answerAt, h.returnsAt⟩

theorem writePKG (h : Past s n u) (v : BitVec 2) : Past s n (u.writePKG v) := ⟨h.answerAt, h.returnsAt⟩

/-- The calls that `s` will find answered after `n` of them, `u` will find answered. -/
theorem returns (h : Past s n u) (hs : s.Returns (n + m)) : u.Returns m := fun k hk => by
  rw [h.returnsAt]
  exact hs (n + k) (Nat.add_lt_add_left hk n)

theorem returns_read (h : Past s n u) (hs : s.Returns (n + s.readCalls n)) : u.Returns (u.readCalls 0) :=
  h.readCalls ▸ h.returns hs

end Past

/-- INIT where the calls it makes are answered (R132). -/
theorem runLines_initLines_of_calls {s : State} {k1 k2 k3 : Nat} (h1 : k1 = 1 + s.readCalls 1)
    (h2 : k2 = k1 + s.readCalls k1) (h3 : k3 = k2 + s.readCalls k2) (h : s.Returns (k3 + 1)) :
    runLines initLines (s.accept .init) = performInit s := by
  have answered {n : Nat} (hn : n ≤ k3) : s.Returns n := h.mono (Nat.le_succ_of_le hn)
  have up : Past s 1 s.powerUp.2 := (Past.refl s).memWrite _ _
  have control (reg c) : Past s k1 ((s.powerUp.2.memRead8 reg).2.checkPower c) := h1 ▸ (up.memRead8 reg).checkPower c
  have ident (reg c reg' v) := h2 ▸ ((control reg c).memRead8 reg').writePKG v
  have registers (reg c reg' v reg'' g it) := h3 ▸ (((ident reg c reg' v).memRead8 reg'').writeG g).writeIT it
  simp only [initLines, List.append_assoc, List.cons_append, List.nil_append, State.accept_eq_midway]
  rw [runLines_powerUpLines _ _ _ _ h.one,
    runLines_memRead8Lines _ _ _ _ _ _ (up.returns_read (answered (by omega))), runLines_act,
    State.midway_checkPower, State.midway_advance,
    runLines_memRead8Lines _ _ _ _ _ _ ((control _ _).returns_read (answered (by omega))), runLines_act,
    State.midway_writePKG, State.midway_advance,
    runLines_memRead8Lines _ _ _ _ _ _ ((ident _ _ _ _).returns_read (answered (by omega))), runLines_act,
    State.midway_writeG, State.midway_advance, runLines_act, State.midway_writeIT, State.midway_advance,
    runLines_powerDownLines _ _ _ _ ((registers _ _ _ _ _ _ _).returns h), runLines_lineRespond]
  simp only [performInit, State.midway_loc]

/-- Settles O12: INIT is its lines where the calls they make are answered. -/
theorem initLoadsTheDeviceRegistersFromTheSensor : Obligations.InitLoadsTheDeviceRegistersFromTheSensor := by
  refine ⟨rfl, fun s => ?_⟩
  intro k1 k2 k3 c i t h
  rw [exec_eq_runLines, linesOf, runLines_initLines_of_calls rfl rfl rfl h, performInit_eq s _ _ _ rfl rfl rfl]
  simp only [writeFrame_eq, readFrame8_eq]
  rfl

end Sys2Proof.Machine

/-! ### The power bracket (R135, R152, R241)

Lines of an operation before its last one lead on to the next, or stop in a call, and only add to the trace. So a
sequenced operation that gets past its power-up write stops in a call or comes to its power-down write, after which its
lines add nothing. -/

namespace Sys2Proof.Machine

/-- From `s` to `u` events have been added under the same parameters and address. -/
structure Extends (s u : State) : Prop where
  cfg : u.cfg = s.cfg
  addr : u.addr = s.addr
  trace : s.trace <+: u.trace

namespace Extends

variable {s t u : State}

theorem refl (s : State) : Extends s s := ⟨rfl, rfl, List.prefix_rfl⟩

theorem trans (h : Extends s t) (h' : Extends t u) : Extends s u :=
  ⟨h'.cfg.trans h.cfg, h'.addr.trans h.addr, h.trace.trans h'.trace⟩

theorem of_ownAct (h : OwnAct s u) : Extends s u := by
  refine ⟨h.cfg, h.addr, ?_⟩
  obtain htrace | ⟨d, htrace⟩ := h.trace <;> rw [htrace]
  exact List.prefix_append _ _

theorem complete (s : State) (x : Call) : Extends s (s.complete x) := by
  cases x <;> exact ⟨rfl, rfl, List.prefix_append _ _⟩

theorem looked (s : State) : Extends s s.looked := ⟨rfl, rfl, List.prefix_rfl⟩

/-- What is in flight does not matter. -/
theorem of_midway {i : Instr} {k : Nat} {l : Locals} (h : Extends (s.midway i k l) u) : Extends s u :=
  ⟨h.cfg, h.addr, h.trace⟩

end Extends

/-- An act midway that does not end its operation leads midway. -/
theorem InBody.advance_midway {i : Instr} {s t : State} {k : Nat} {l : Locals} (h : InBody i (s.midway i k l) t) :
    ∃ l', t.advance = t.midway i (k + 1) l' := by
  obtain ⟨l', hrun⟩ := h.run_of_run (State.midway_run s i k l)
  exact ⟨l', by rw [State.advance, hrun]; rfl⟩

/-- The operation `i` leads from `s` to its line `m` and from there to `t`, or it is blocked in `t`; events have been
added. -/
def LeadsOn (i : Instr) (s : State) (m : Nat) (t : State) : Prop :=
  ∃ u k l, Extends s u ∧ (t = runLines ((linesOf i).drop m) (u.midway i m l) ∨ t = u.waitingAt i k l)

theorem LeadsOn.of_extends {i : Instr} {s u t : State} {m : Nat} (hsu : Extends s u) (h : LeadsOn i u m t) :
    LeadsOn i s m t := by
  obtain ⟨v, k, l, huv, ht⟩ := h
  exact ⟨v, k, l, hsu.trans huv, ht⟩

theorem runLines_drop_leadsOn {i : Instr} {k m : Nat} (hkm : k ≤ m) (hm : m < (linesOf i).length) (s : State)
    (l : Locals) : LeadsOn i s m (runLines ((linesOf i).drop k) (s.midway i k l)) := by
  induction hkm using Nat.decreasingInduction generalizing s l with
  | self => exact ⟨s, m, l, .refl s, .inl rfl⟩
  | of_succ k hk ih =>
    have hlt : k < (linesOf i).length := hk.trans hm
    have hcode := (pseudocode_linesOf i).drop hlt
    have hlaw := lawfulLines_linesOf i _ (List.getElem_mem hlt)
    rw [List.drop_eq_getElem_cons hlt] at hcode ⊢
    generalize (linesOf i)[k] = line at hcode hlaw ⊢
    cases line with
    | act f =>
      have hf : BodyAct i f := by
        generalize hrest : (linesOf i).drop (k + 1) = rest at hcode
        cases hcode with
        | last => exact absurd (List.drop_eq_nil_iff.mp hrest) (by omega)
        | act hf _ => exact hf
      obtain ⟨l', hmid⟩ := (hf.inBody (s.midway i k l)).advance_midway
      rw [runLines_act, hmid]
      exact .of_extends (Extends.of_ownAct (hlaw _)).of_midway (ih _ _)
    | call c ret =>
      rw [runLines_call]
      split
      · exact ih s l
      next x _ =>
        split
        · rw [State.midway_endCall]
          exact .of_extends (.complete s x) (ih _ _)
        · exact ⟨s.looked, k, l, .looked s, .inr rfl⟩

/-- Lines that add no event. -/
def SilentLines (ls : List Line) : Prop := ∀ s, (runLines ls s).trace = s.trace

/-- The lines of a sequenced operation (R135): its power-up write at line `up`, to which it leads at once, and its
power-down write at line `down`, after which no event comes. -/
structure Bracket (i : Instr) (up down : Nat) (post : List Line) : Prop where
  enters : ∀ s : State, ∃ l, runLines (linesOf i) (s.accept i) = runLines ((linesOf i).drop up) (s.midway i up l)
  opens : (linesOf i).drop up = powerUpLines ++ (linesOf i).drop (up + 2)
  closes : (linesOf i).drop down = powerDownLines ++ post
  inside : up + 2 ≤ down
  silent : SilentLines post

theorem exists_bracket {i : Instr} (hi : IsBracketed i) : ∃ up down post, Bracket i up down post := by
  cases i with
  | init => exact ⟨0, 18, _, fun _ => ⟨_, rfl⟩, rfl, rfl, by decide, fun _ => rfl⟩
  | setit it => exact ⟨1, 5, _, fun _ => ⟨_, rfl⟩, rfl, rfl, by decide, fun _ => rfl⟩
  | setgain g => exact ⟨1, 5, _, fun _ => ⟨_, rfl⟩, rfl, rfl, by decide, fun _ => rfl⟩
  | rdchan => exact ⟨1, 14, _, fun _ => ⟨_, rfl⟩, rfl, rfl, by decide, fun _ => rfl⟩
  | _ => exact hi.elim

namespace Bracket

variable {i : Instr} {up down : Nat} {post : List Line}

/-- Blocked in the power-up frame, the operation waits in that call. -/
theorem pendingCall (h : Bracket i up down post) (s : State) (l : Locals) :
    (s.waitingAt i up l).pendingCall = some (.busWrite (writeFrame s.cfg s.cfg.regControl s.cfg.ctrlOn)) := by
  obtain ⟨hline, -⟩ := getElem?_and_drop_of_drop_eq_cons h.opens
  exact State.pendingCall_eq_of_call (s := s.waitingAt i up l) rfl hline

/-- What follows the power-up frame leads on to the power-down write. -/
theorem leadsOn (h : Bracket i up down post) (s : State) (l : Locals) :
    LeadsOn i s down (runLines (lineWriteFail :: (linesOf i).drop (up + 2)) (s.midway i (up + 1) l)) := by
  have hdown : down < (linesOf i).length := by
    have hlen := congrArg List.length h.closes
    simp only [List.length_drop, powerDownLines, memWriteLines, List.length_append, List.length_cons] at hlen
    omega
  obtain ⟨-, hnext⟩ := getElem?_and_drop_of_drop_eq_cons h.opens
  have hled := runLines_drop_leadsOn (Nat.le_of_succ_le h.inside) hdown s l
  rwa [hnext] at hled

/-- Led on to its power-down write, the operation blocks in it, or adds it and what it raises and no more. -/
theorem closing (h : Bracket i up down post) {s t : State} (ht : LeadsOn i s down t) :
    ∃ es, t.trace = s.trace ++ es ∧ (t.busy = false → ∃ inside ok,
      es = inside ++ writeTrace s.addr (writeFrame s.cfg s.cfg.regControl s.cfg.ctrlOff) ok) := by
  obtain ⟨u, k, l, ⟨hcfg, haddr, inside, htrace⟩, rfl | rfl⟩ := ht
  · rw [h.closes]
    cases hnow : u.returnsNow with
    | false =>
      rw [powerDownLines, memWriteLines, List.cons_append, runLines_lineBusWrite_blocks _ _ _ _ _ _ hnow]
      exact ⟨inside, htrace.symm, nofun⟩
    | true =>
      rw [runLines_powerDownLines _ _ _ _ (State.returns_one_of_returnsNow hnow), h.silent, State.powerDown_eq, hcfg,
        haddr]
      exact ⟨inside ++ _, by rw [← List.append_assoc, htrace]; rfl, fun _ => ⟨inside, _, rfl⟩⟩
  · exact ⟨inside, htrace.symm, nofun⟩

end Bracket

/-- Settles O36: the power-up frame blocks or enters the trace, and what follows leads on to the power-down write. -/
theorem sequencedOperationsKeepThePowerBracket : Obligations.SequencedOperationsKeepThePowerBracket := by
  intro i s t hi ht up down
  have hup : up = writeFrame s.cfg s.cfg.regControl s.cfg.ctrlOn := (writeFrame_eq ..).symm
  have hdown : down = writeFrame s.cfg s.cfg.regControl s.cfg.ctrlOff := (writeFrame_eq ..).symm
  obtain ⟨first, last, post, h⟩ := exists_bracket hi
  obtain ⟨l, henters⟩ := h.enters s
  rw [exec_eq_runLines, henters, h.opens, powerUpLines, memWriteLines, List.cons_append, List.singleton_append] at ht
  cases ht
  cases hnow : s.returnsNow with
  | false =>
    rw [runLines_lineBusWrite_blocks _ _ _ _ _ _ hnow, hup]
    exact .inl ⟨rfl, h.pendingCall s.looked l⟩
  | true =>
    rw [runLines_lineBusWrite _ _ _ _ _ _ hnow, hup, hdown]
    obtain ⟨es, htrace, hend⟩ := h.closing (h.leadsOn (s.afterBus 1 [_]) _)
    exact .inr ⟨_, es, htrace.trans (List.append_assoc ..), hend⟩

end Sys2Proof.Machine

/-! ### The last TIMING byte written is the shadow (R37, R137)

A bracketed TIMING write is the only TIMING write of its setter, and the power-down write after it goes to another
register. -/

namespace Sys2Proof.Machine

theorem lastTimingWrite_cons (c : Cfg) (e : Event) (es : List Event) :
    lastTimingWrite c (e :: es) = (lastTimingWrite c es).or (lastTimingWrite c [e]) := rfl

theorem lastTimingWrite_append (c : Cfg) (es fs : List Event) :
    lastTimingWrite c (es ++ fs) = (lastTimingWrite c fs).or (lastTimingWrite c es) := by
  induction es with
  | nil => exact Option.or_none.symm
  | cons e es ih => rw [List.cons_append, lastTimingWrite_cons, lastTimingWrite_cons c e es, ih, Option.or_assoc]

theorem lastTimingWrite_writeTrace (c : Cfg) (addr : Nat) (reg : RegAddr) (v : Byte) (ok : Bool) :
    lastTimingWrite c (writeTrace addr (writeFrame c reg v) ok)
      = if cmd c reg false = cmd c c.regTiming false then some v else none := by
  cases ok <;> exact Option.none_or

namespace State

/-! The bracketed TIMING write changes no parameter and no device register. -/

variable (s : State) (g : BitVec 1) (it : BitVec 2)

@[simp] theorem bracketedTiming_cfg : (s.bracketedTiming g it).cfg = s.cfg := by rw [bracketedTiming_eq, afterBus_cfg]

@[simp] theorem bracketedTiming_g : (s.bracketedTiming g it).g = s.g := by rw [bracketedTiming_eq, afterBus_g]

@[simp] theorem bracketedTiming_it : (s.bracketedTiming g it).it = s.it := by rw [bracketedTiming_eq, afterBus_it]

end State

/-- A write of CONTROL is no write of TIMING. -/
theorem cmd_regControl_ne_cmd_regTiming {c : Cfg} (hc : c.WF) :
    cmd c c.regControl false ≠ cmd c c.regTiming false := by
  have ⟨_, _, _, _, _, hcontrol, htiming, _, _, _, _, _, _, _, _, hnodup⟩ := hc
  obtain ⟨hne, -⟩ := List.nodup_cons.mp hnodup
  exact fun h => hne (cmd_injective hc hcontrol htiming h ▸ List.mem_cons_self)

theorem lastTimingWrite_bracketedTiming {s : State} (hc : s.cfg.WF) (g : BitVec 1) (it : BitVec 2) :
    lastTimingWrite s.cfg (s.bracketedTiming g it).trace = some (timing g it) := by
  rw [State.bracketedTiming_eq, State.afterBus_trace, lastTimingWrite_append, lastTimingWrite_append,
    lastTimingWrite_append, lastTimingWrite_writeTrace, lastTimingWrite_writeTrace, if_pos rfl,
    if_neg (cmd_regControl_ne_cmd_regTiming hc), Option.none_or, Option.some_or, Option.some_or]

/-- The last TIMING byte written is that of the stored fields. -/
def State.ShadowsTiming (s : State) : Prop := lastTimingWrite s.cfg s.trace = some (timing s.g s.it)

/-- A setter leaves the shadow it has written, whatever the shadow was before. -/
theorem perform_shadowsTiming {i : Instr} (hi : IsSetter i) {s : State} (hc : s.cfg.WF) :
    (perform i s).ShadowsTiming := by
  cases i with
  | setit v =>
    simpa [perform, performSetit, State.ShadowsTiming] using lastTimingWrite_bracketedTiming hc s.g v
  | setgain v =>
    simpa [perform, performSetgain, State.ShadowsTiming] using lastTimingWrite_bracketedTiming hc v s.it
  | _ => exact hi.elim

theorem waitBound_of_isSetter {i : Instr} (hi : IsSetter i) : waitBound i = 3 := by
  cases i with
  | setit | setgain => rfl
  | _ => exact hi.elim

/-- What an operation leaves of the answers to come. -/
theorem exec_returns {i : Instr} {s t : State} {n : Nat} (h : exec i s = .next t) (hs : s.Returns (n + waitBound i)) :
    t.Returns n := by
  rw [exec_eq_runLines] at h
  cases h
  exact runLines_returns (keepInputs_linesOf i) ((countP_isCall_linesOf i).symm ▸ hs)

/-- A sequence of setters ends in a shadow, its last setter's own or, where there is none, the one it began with. -/
theorem execAll_shadowsTiming {ops : List Instr} (hops : ∀ i ∈ ops, IsSetter i) {s : State} (hc : s.cfg.WF)
    (hs : s.Returns (3 * ops.length)) (hbegin : ops = [] → s.ShadowsTiming) :
    ∃ t, execAll ops s = .next t ∧ t.ShadowsTiming := by
  induction ops generalizing s with
  | nil => exact ⟨s, rfl, hbegin rfl⟩
  | cons i ops ih =>
    obtain ⟨hi, hops⟩ := List.forall_mem_cons.mp hops
    have calls : s.Returns (3 * ops.length + waitBound i) := waitBound_of_isSetter hi ▸ hs
    have hexec : exec i s = .next (perform i s) := exec_eq_perform (calls.mono (Nat.le_add_left _ _))
    have hcfg : (perform i s).cfg.WF := (exec_frame hexec).cfg ▸ hc
    rw [execAll, hexec, andThen_next]
    exact ih hops hcfg (exec_returns hexec calls) fun _ => perform_shadowsTiming hi hc

/-- Settles O37: INIT leaves the answers to the setters' calls, and the last setter leaves the shadow. -/
theorem lastTimingByteCombinesBothStoredFields : Obligations.LastTimingByteCombinesBothStoredFields := by
  intro s s' ops hc hs hinit hne hops
  have hcfg : s'.cfg.WF := (exec_frame hinit).cfg ▸ hc
  have calls : s.Returns (3 * ops.length + waitBound .init) := Nat.add_comm 8 _ ▸ hs
  exact execAll_shadowsTiming hops hcfg (exec_returns hinit calls) fun h => absurd h hne

end Sys2Proof.Machine

/-! ### RDCHAN before, in and after its delay (R150 to R152)

The delay is the one line of the machine that calls `Delay`, so a block that is blocked in a delay stands at that line
of RDCHAN. Up to it RDCHAN has made the power-up write; after it come the two reads and the power-down write, and only
the calls they make need an answer. -/

namespace Sys2Proof.Machine

/-- The line of RDCHAN that calls the delay (R150, R151). -/
def waitLine : Line := lineDelay fun s => waitOf s.cfg s.loc.it

/-- The lines of RDCHAN after its delay (R150). -/
def acquireLines : List Line :=
  memRead16Lines (·.regCh0Low)
    ++ ([lineSet fun s => { s.loc with ch0 := orZero s.loc.word }]
    ++ (memRead16Lines (·.regCh1Low)
    ++ ([lineSet fun s => { s.loc with ch1 := orZero s.loc.word }]
    ++ (powerDownLines
    ++ [lineRespond (fun _ => .ok) fun s => channelData s.loc.ch0 s.loc.ch1]))))

theorem linesOf_rdchan : linesOf .rdchan = lineReadIT :: (powerUpLines ++ waitLine :: acquireLines) := (rfl)

theorem three_lt_length_linesOf_rdchan : 3 < (linesOf .rdchan).length := by decide

theorem linesOf_rdchan_drop_three : (linesOf .rdchan).drop 3 = waitLine :: acquireLines := (rfl)

/-! ### The one line that calls the delay -/

/-- A line that never calls the delay. -/
def Line.AvoidsDelay : Line → Prop
  | .act _ => True
  | .call c _ => ∀ s d, c s ≠ some (.delay d)

def AvoidDelay (ls : List Line) : Prop := ∀ l ∈ ls, l.AvoidsDelay

@[simp] theorem avoidsDelay_act (f : State → State) : (Line.act f).AvoidsDelay := trivial

@[simp] theorem avoidsDelay_call (c : State → Option Call) (ret : Answer → Locals → Locals) :
    (Line.call c ret).AvoidsDelay ↔ ∀ s d, c s ≠ some (.delay d) := .rfl

@[simp] theorem avoidDelay_nil : AvoidDelay [] := List.forall_mem_nil _

@[simp] theorem avoidDelay_cons {l : Line} {ls : List Line} :
    AvoidDelay (l :: ls) ↔ l.AvoidsDelay ∧ AvoidDelay ls := List.forall_mem_cons

@[simp] theorem avoidDelay_append {ls ls' : List Line} :
    AvoidDelay (ls ++ ls') ↔ AvoidDelay ls ∧ AvoidDelay ls' := List.forall_mem_append

@[simp] theorem avoidDelay_memWriteLines (reg : Cfg → RegAddr) (v : State → Byte) :
    AvoidDelay (memWriteLines reg v) := by
  simp [memWriteLines, lineBusWrite, lineWriteFail]

@[simp] theorem avoidDelay_memRead8Lines (reg : Cfg → RegAddr) : AvoidDelay (memRead8Lines reg) := by
  simp [memRead8Lines, lineBusWrite, lineByteNoWrite, lineByteRead, lineByteNoRead]

@[simp] theorem avoidDelay_memRead16Lines (reg : Cfg → RegAddr) : AvoidDelay (memRead16Lines reg) := by
  simp [memRead16Lines, lineBusWrite, lineWordNoWrite, lineWordRead, lineWordNoRead]

@[simp] theorem avoidDelay_powerUpLines : AvoidDelay powerUpLines := avoidDelay_memWriteLines _ _

@[simp] theorem avoidDelay_powerDownLines : AvoidDelay powerDownLines := avoidDelay_memWriteLines _ _

@[simp] theorem avoidsDelay_lineSet (f : State → Locals) : (lineSet f).AvoidsDelay := trivial

@[simp] theorem avoidsDelay_lineRespond (st : State → Status) (d : State → BitVec 32) :
    (lineRespond st d).AvoidsDelay := trivial

@[simp] theorem avoidsDelay_lineFrameDone : lineFrameDone.AvoidsDelay := trivial

theorem avoidDelay_acquireLines : AvoidDelay acquireLines := by simp [acquireLines]

theorem avoidDelay_linesOf {i : Instr} (hi : i ≠ .rdchan) : AvoidDelay (linesOf i) := by
  cases i with
  | wrreg reg v => simp [linesOf, wrregLines]
  | rdreg reg => simp [linesOf, rdregLines]
  | rdreg16 reg => simp [linesOf, rdreg16Lines]
  | enable => simp [linesOf, enableLines]
  | disable => simp [linesOf, disableLines]
  | init => simp [linesOf, initLines]
  | setit it => simp [linesOf, setitLines, lineReadG]
  | setgain g => simp [linesOf, setgainLines, lineReadIT]
  | rdchan => exact absurd rfl hi
  | lux raw0 raw1 => simp [linesOf, luxLines, lineReadIT, lineReadG, lineReadPKG]
  | frameWrite reg v => simp [linesOf, frameWriteLines]
  | frameRead8 reg => simp [linesOf, frameRead8Lines]
  | frameRead16 reg => simp [linesOf, frameRead16Lines]

theorem AvoidDelay.getElem? {ls : List Line} (h : AvoidDelay ls) {k : Nat} {l : Line} (hl : ls[k]? = some l) :
    l.AvoidsDelay := h l (List.mem_of_getElem? hl)

/-- A line that can call the delay is the fourth of RDCHAN. -/
theorem eq_rdchan_of_not_avoidsDelay {i : Instr} {k : Nat} {l : Line} (hl : (linesOf i)[k]? = some l)
    (h : ¬ l.AvoidsDelay) : i = .rdchan ∧ k = 3 := by
  obtain rfl : i = .rdchan := by
    by_contra hi
    exact h ((avoidDelay_linesOf hi).getElem? hl)
  refine ⟨rfl, ?_⟩
  have before : AvoidDelay (lineReadIT :: powerUpLines) := by simp [lineReadIT]
  obtain hk | rfl | hk : k < 3 ∨ k = 3 ∨ 3 < k := by omega
  · rw [linesOf_rdchan, ← List.cons_append, List.getElem?_append_left hk] at hl
    exact absurd (before.getElem? hl) h
  · rfl
  · obtain ⟨j, rfl⟩ := Nat.exists_eq_add_of_lt hk
    rw [Nat.add_assoc, ← List.getElem?_drop, linesOf_rdchan_drop_three, List.getElem?_cons_succ] at hl
    exact absurd (avoidDelay_acquireLines.getElem? hl) h

/-- The call RDCHAN is blocked in at its delay (R151). -/
theorem pendingCall_waitingAt_waitLine (s : State) (l : Locals) :
    (s.waitingAt .rdchan 3 l).pendingCall = some (.delay (waitOf s.cfg l.it)) :=
  State.pendingCall_eq_of_call (s := s.waitingAt .rdchan 3 l) rfl rfl

/-- A block blocked in a delay is an RDCHAN blocked in its own. -/
theorem exists_waitingAt_of_pendingCall_delay {s : State} {d : Nat} (h : s.pendingCall = some (.delay d)) :
    ∃ l : Locals, s = s.waitingAt .rdchan 3 l ∧ waitOf s.cfg l.it = d := by
  obtain ⟨r, c, ret, hr, hl, hw, hd⟩ := State.pendingCall_eq_some h
  obtain ⟨hop, hseq⟩ := eq_rdchan_of_not_avoidsDelay hl fun avoids => avoids s d hd
  have hs : s = s.waitingAt .rdchan 3 r.loc := by
    rw [State.waitingAt, ← hop, ← hseq, ← hw, ← hr]
  rw [hs, pendingCall_waitingAt_waitLine] at h
  cases h
  exact ⟨r.loc, hs, rfl⟩

/-! ### The three parts of RDCHAN -/

section
variable {s : State} {n k1 k2 : Nat}

/-- The inlined `MemRead(reg, 2)` whose first call is the `n`-th from `s` on. -/
theorem runLines_memRead16Lines_afterBus (op : Instr) (k : Nat) (l : Locals) (ls : List Line) (reg : Cfg → RegAddr)
    (es : List Event) (h1 : k1 = n + s.readCalls n) (h : s.Returns k1) :
    runLines (memRead16Lines reg ++ ls) ((s.afterBus n es).midway op k l)
      = runLines ls ((s.afterBus k1 (es ++ s.readTrace n (readFrame16 s.cfg (reg s.cfg)) 2)).midway op (k + 4)
          { l with ok := (s.answerAt n).ok, word := (s.readData n 2).map fun bs => word16Of (some bs) }) := by
  subst h1
  have calls : (s.afterBus n es).Returns ((s.afterBus n es).readCalls 0) := by
    rw [State.afterBus_readCalls]
    exact State.Returns.afterBus h es
  rw [runLines_memRead16Lines _ _ _ _ _ _ calls, State.memRead16_eq]
  simp only [State.afterBus_afterBus, State.afterBus_readCalls, State.afterBus_readTrace, State.afterBus_readData,
    State.afterBus_answerAt, State.afterBus_cfg, Nat.add_zero]

/-- After its delay RDCHAN reads channel 0, then channel 1, powers down and answers both counts (R150). -/
theorem runLines_acquireLines (k : Nat) (l : Locals) (es : List Event) (h1 : k1 = n + s.readCalls n)
    (h2 : k2 = k1 + s.readCalls k1) (h : s.Returns (k2 + 1)) :
    runLines acquireLines ((s.afterBus n es).midway .rdchan k l) = s.afterRequest (k2 + 1)
      (es ++ s.readTrace n [s.cfg.commandBit ||| s.cfg.readWordBit ||| s.cfg.regCh0Low] 2
        ++ s.readTrace k1 [s.cfg.commandBit ||| s.cfg.readWordBit ||| s.cfg.regCh1Low] 2
        ++ writeTrace s.addr [s.cfg.commandBit ||| s.cfg.regControl, s.cfg.ctrlOff] (s.answerAt k2).ok)
      .ok (word16Of (s.readData k1 2) ++ word16Of (s.readData n 2)) := by
  have answered {m : Nat} (hm : m ≤ k2) : s.Returns m := h.mono (Nat.le_succ_of_le hm)
  rw [acquireLines, runLines_memRead16Lines_afterBus _ _ _ _ _ _ h1 (answered (by omega)), List.singleton_append,
    runLines_lineSet, runLines_memRead16Lines_afterBus _ _ _ _ _ _ h2 (answered le_rfl), List.singleton_append,
    runLines_lineSet, runLines_powerDownLines _ _ _ _ (h.afterBus _), runLines_lineRespond]
  simp only [State.powerDown_eq, State.afterBus_respond, State.midway_loc, State.afterBus_answerAt, State.afterBus_addr,
    State.afterBus_cfg, State.afterBus_afterBus,
    writeFrame_eq, readFrame16_eq, orZero_map_word16Of, channelData, Nat.add_zero]

/-- Before its delay RDCHAN reads `IT` and powers up (R150). -/
theorem runLines_rdchan_to_delay (h : s.Returns 1) :
    runLines (linesOf .rdchan) (s.accept .rdchan)
      = runLines (waitLine :: acquireLines) (s.powerUp.2.midway .rdchan 3 { it := s.it, ok := s.powerUp.1 }) := by
  rw [linesOf_rdchan, State.accept_eq_midway, lineReadIT, runLines_lineSet, runLines_powerUpLines _ _ _ _ h]
  rfl

/-- What stands at the delay: the power-up write has been made. -/
theorem powerUp_delay_eq (s : State) (d : Nat) :
    s.powerUp.2.delay d = s.looked.afterBus 1
      (writeTrace s.addr [s.cfg.commandBit ||| s.cfg.regControl, s.cfg.ctrlOn] (s.answerAt 0).ok ++ [.delay d]) := by
  rw [State.powerUp_eq, State.delay_eq_afterBus, State.afterBus_looked, State.afterBus_afterBus, writeFrame_eq]

/-- A delay that does not return blocks RDCHAN (R152). -/
theorem exec_rdchan_blocks (h0 : s.Returns 1) (h1 : s.returnsAt 1 = false) :
    ∃ l : Locals, l.it = s.it ∧ exec .rdchan s = .next (s.powerUp.2.looked.waitingAt .rdchan 3 l) := by
  have now : s.powerUp.2.returnsNow = false := by
    rw [State.returnsNow_eq_returnsAt_zero, State.powerUp_eq, State.afterBus_returnsAt, h1]
  refine ⟨{ it := s.it, ok := s.powerUp.1 }, rfl, ?_⟩
  rw [exec_eq_runLines, runLines_rdchan_to_delay h0, waitLine, runLines_lineDelay_blocks _ _ _ _ _ _ now]

/-- A delay that returns leads on to the reads (R152). -/
theorem step_of_delay_returned {d : Nat} (h : s.pendingCall = some (.delay d)) (now : s.returnsNow = true) :
    ∃ l, step s = .next (runLines acquireLines ((s.looked.afterBus 0 [.delay d]).midway .rdchan 4 l)) := by
  obtain ⟨l, hs, rfl⟩ := exists_waitingAt_of_pendingCall_delay h
  refine ⟨l, ?_⟩
  rw [hs, step_of_busy (r := { op := .rdchan, seq := 3, waiting := true, loc := l }) rfl three_lt_length_linesOf_rdchan,
    linesOf_rdchan_drop_three, waitLine, lineDelay, runLines_call]
  simp only [State.waitingAt_returnsNow, now, if_true, State.waitingAt_endCall, State.complete_delay,
    State.delay_eq_afterBus]
  rfl

end

/-- Settles O15: the three parts of RDCHAN, whose calls are one more look than bus calls. -/
theorem rdchanWaitsAndReadsBothChannels : Obligations.RdchanWaitsAndReadsBothChannels := by
  refine ⟨rfl, fun s => ?_⟩
  intro k1 k2 h
  rw [exec_eq_runLines, runLines_rdchan_to_delay h.one, waitLine,
    runLines_lineDelay _ _ _ _ _ _ h.powerUp.now, powerUp_delay_eq,
    runLines_acquireLines (s := s.looked) (k1 := k1) (k2 := k2) _ _ _ rfl rfl h.looked, ← waitOf_eq,
    State.midway_cfg, State.midway_loc, State.powerUp_cfg]
  rfl

/-- Settles O44: RDCHAN blocks in its delay, a blocked block waits or goes on, and hangs if it always waits. -/
theorem rdchanBlocksUntilTheDelayReturns : Obligations.RdchanBlocksUntilTheDelayReturns := by
  refine ⟨fun s h0 h1 => ?_, fun s d h hnow => ?_, fun s d h => ?_, fun s d k => core_run_of_unanswered k⟩
  · have first : s.Returns 1 := State.returns_one_of_returnsNow (s.returnsNow_eq_returnsAt_zero.trans h0)
    obtain ⟨l, hit, hexec⟩ := exec_rdchan_blocks first h1
    refine ⟨_, hexec, ?_, ?_⟩
    · rw [pendingCall_waitingAt_waitLine, hit, waitOf_eq, State.looked_cfg, State.powerUp_cfg]
    · rw [State.powerUp_eq, State.afterBus_looked, writeFrame_eq]
      rfl
  · exact step_of_unanswered h (s.returnsNow_eq_returnsAt_zero.trans hnow)
  · intro k1 k2 calls
    obtain ⟨l, hstep⟩ := step_of_delay_returned h calls.now
    rw [hstep, runLines_acquireLines (s := s.looked) (k1 := k1) (k2 := k2) _ _ _ (Nat.zero_add _).symm rfl
      calls.looked]
    rfl

end Sys2Proof.Machine

/-! ### The steps of LUX, in the integers (R162 to R178)

Each step of the conversion is stated once in plain arithmetic; LUX is one next state, with the package's diagnostic and
the lux as data. -/

namespace Sys2Proof.Machine

/-- A channel after steps 1 to 3 of the conversion. -/
def channelOf (c : Cfg) (it : BitVec 2) (g : BitVec 1) (raw : Word16) : Nat :=
  normalize c (gainAdjust c g (chscaleOf c it)) raw

/-- The coefficients `(B, M)` that steps 4 and 5 select. -/
def coeffOf (c : Cfg) (it : BitVec 2) (g : BitVec 1) (pkg : BitVec 2) (raw0 raw1 : Word16) : Nat × Nat :=
  coefficients c pkg (ratioOf c (channelOf c it g raw0) (channelOf c it g raw1))

section
variable (c : Cfg) (it : BitVec 2) (g : BitVec 1) (pkg : BitVec 2) (raw0 raw1 : Word16)

/-- Steps 6 and 7 of the conversion, on the results of the others. -/
theorem luxOf_eq_scaleOut : luxOf c it g pkg raw0 raw1
    = scaleOut c (roundUp c (clampedDiff (channelOf c it g raw0 * (coeffOf c it g pkg raw0 raw1).1)
        (channelOf c it g raw1 * (coeffOf c it g pkg raw0 raw1).2))) := (rfl)

theorem gainAdjust_eq_mul (chScale : Nat) :
    gainAdjust c g chScale = chScale * if g = c.gainLowCode then 16 else 1 := by
  unfold gainAdjust gainIsLow
  by_cases h : g = c.gainLowCode
  · simp [h, Nat.shiftLeft_eq]
  · simp [h]

theorem normalize_eq_div (chScale : Nat) (raw : Word16) :
    normalize c chScale raw = raw.toNat * chScale / 2 ^ c.chScale := Nat.shiftRight_eq_div_pow _ _

theorem channelOf_eq (raw : Word16) : channelOf c it g raw
    = raw.toNat * ((if it = c.itFast then c.chscaleFast else if it = c.itMedium then c.chscaleMedium else 2 ^ c.chScale)
        * if g = c.gainLowCode then 16 else 1) / 2 ^ c.chScale := by
  rw [channelOf, normalize_eq_div, gainAdjust_eq_mul, chscaleOf_eq, Nat.one_shiftLeft]

theorem channelOf_zero : channelOf c it g 0 = 0 := by
  rw [channelOf, normalize_eq_div, show (0 : Word16).toNat = 0 from rfl, Nat.zero_mul, Nat.zero_div]

theorem ratioOf_eq_div (channel0 channel1 : Nat) : ratioOf c channel0 channel1
    = if channel0 = 0 then 0 else (channel1 * 2 ^ (c.ratioScale + 1) / channel0 + 1) / 2 := by
  rw [ratioOf, Nat.shiftLeft_eq, Nat.shiftRight_eq_div_pow, Nat.pow_one]

/-- The subtraction of the naturals is the clamp (R174). -/
theorem clampedDiff_eq_sub (p0 p1 : Nat) : clampedDiff p0 p1 = p0 - p1 := by
  unfold clampedDiff
  split
  · omega
  · rfl

theorem scaleOut_roundUp (temp : Nat) :
    scaleOut c (roundUp c temp) = (temp + 2 ^ (c.luxScale - 1)) / 2 ^ c.luxScale := by
  rw [scaleOut, roundUp, Nat.one_shiftLeft, Nat.shiftRight_eq_div_pow]

/-- The lux in the integers, from the channels and the coefficients (R174, R176). -/
theorem luxOf_eq_div : luxOf c it g pkg raw0 raw1
    = (channelOf c it g raw0 * (coeffOf c it g pkg raw0 raw1).1
        - channelOf c it g raw1 * (coeffOf c it g pkg raw0 raw1).2 + 2 ^ (c.luxScale - 1)) / 2 ^ c.luxScale := by
  rw [luxOf_eq_scaleOut, clampedDiff_eq_sub, scaleOut_roundUp]

/-- Under the constraint of R10 the rounding constant is half of the scale. -/
theorem two_pow_luxScale {c : Cfg} (hc : 1 ≤ c.luxScale) : 2 ^ c.luxScale = 2 * 2 ^ (c.luxScale - 1) := by
  rw [← Nat.pow_succ', Nat.succ_eq_add_one, Nat.sub_add_cancel hc]

/-- Where the infrared product is not below the broadband product, the lux is 0 (R174, R176). -/
theorem luxOf_eq_zero {c : Cfg} (hc : 1 ≤ c.luxScale)
    (h : channelOf c it g raw0 * (coeffOf c it g pkg raw0 raw1).1
      ≤ channelOf c it g raw1 * (coeffOf c it g pkg raw0 raw1).2) : luxOf c it g pkg raw0 raw1 = 0 := by
  rw [luxOf_eq_div, Nat.sub_eq_zero_of_le h, Nat.zero_add]
  exact Nat.div_eq_of_lt (Nat.pow_lt_pow_right Nat.one_lt_two (Nat.sub_lt hc Nat.one_pos))

end

/-! ### The band scan and the package's table (R170, R172, R186) -/

/-- Band `i` is the first of bands 1 to 7 that admits the ratio, or band 8 if none does (R172). -/
def FirstAdmitting (t : CoeffTable) (ratio : Nat) (i : Fin 8) : Prop :=
  (i < 7 → ratio ≤ t[i].k) ∧ ∀ j < i, t[j].k < ratio

/-- One comparison of the scan: no band before `i` admits the ratio, so band `i` is selected, or passed too. -/
theorem FirstAdmitting.scan {t : CoeffTable} {ratio n : Nat} (i : Fin 8) {rest : Fin 8} (hi : i.val = n)
    (passed : ∀ j : Fin 8, j.val < n → t[j].k < ratio)
    (next : (∀ j : Fin 8, j.val < n + 1 → t[j].k < ratio) → FirstAdmitting t ratio rest) :
    FirstAdmitting t ratio (if ratio ≤ t[i].k then i else rest) := by
  subst hi
  by_cases h : ratio ≤ t[i].k
  · rw [if_pos h]
    exact ⟨fun _ => h, passed⟩
  · rw [if_neg h]
    refine next fun j hj => ?_
    obtain hlt | heq := Nat.lt_succ_iff_lt_or_eq.mp hj
    · exact passed j hlt
    · rw [Fin.ext heq]
      exact Nat.lt_of_not_le h

theorem bandIndex_firstAdmitting (t : CoeffTable) (ratio : Nat) : FirstAdmitting t ratio (bandIndex t ratio) :=
  .scan 0 rfl nofun fun h => .scan 1 rfl h fun h => .scan 2 rfl h fun h => .scan 3 rfl h fun h => .scan 4 rfl h fun h =>
    .scan 5 rfl h fun h => .scan 6 rfl h fun h => ⟨fun h7 => absurd h7 (Nat.lt_irrefl 7), fun j hj => h j hj⟩

/-- Settles O20: the band selected for the greater ratio, if it is one of the first seven, admits the smaller ratio too,
and no band before the one selected does. -/
theorem bandSelectionIsMonotonic : Obligations.BandSelectionIsMonotonic := by
  intro t r r' hr
  by_contra! hlt
  obtain ⟨admits, -⟩ := bandIndex_firstAdmitting t r'
  obtain ⟨-, passed⟩ := bandIndex_firstAdmitting t r
  have admitted := admits (by omega)
  have not_admitted := passed _ hlt
  omega

theorem packageOf_eq_unknown_iff_not_known (c : Cfg) (pkg : BitVec 2) :
    packageOf c pkg = .unknown ↔ ¬ (pkg = c.pkgCs ∨ pkg = c.pkgTfncl) := by
  rw [packageOf_eq_unknown, not_or]

/-- The unknown package has no table (R186). -/
theorem coefficients_of_unknown {c : Cfg} {pkg : BitVec 2} (h : ¬ (pkg = c.pkgCs ∨ pkg = c.pkgTfncl)) (ratio : Nat) :
    coefficients c pkg ratio = (0, 0) := by
  rw [coefficients, tableOf, (packageOf_eq_unknown_iff_not_known c pkg).mpr h]

/-- A known package has the table of its code, CS before T/FN/CL (R24, R170). -/
theorem coefficients_of_known {c : Cfg} {pkg : BitVec 2} (h : pkg = c.pkgCs ∨ pkg = c.pkgTfncl) (ratio : Nat) :
    let t := if pkg = c.pkgCs then c.tableCs else c.tableTfncl
    coefficients c pkg ratio = (t[bandIndex t ratio].b, t[bandIndex t ratio].m) := by
  unfold coefficients tableOf packageOf
  by_cases hcs : pkg = c.pkgCs
  · simp only [if_pos hcs]
  · simp only [if_neg hcs, if_pos (h.resolve_left hcs)]

/-! ### The whole operation (R160) -/

/-- Everything LUX does (R160). -/
theorem exec_lux (raw0 raw1 : Word16) (s : State) : exec (.lux raw0 raw1) s
    = .next (s.afterRequest 0 (if s.pkg = s.cfg.pkgCs ∨ s.pkg = s.cfg.pkgTfncl then [] else [.diag .pkgUnknown]) .ok
        (luxData (luxOf s.cfg s.it s.g s.pkg raw0 raw1))) := by
  have no_calls : s.Returns (waitBound (.lux raw0 raw1)) := nofun
  rw [exec_eq_perform no_calls, perform, performLux, State.checkPackage_eq, State.afterBus_respond]
  simp only [State.readIT_eq, State.readG_eq, State.readPKG_eq, packageOf_eq_unknown_iff_not_known, ite_not]

theorem luxData_toNat {lux : Nat} (h : lux < 2 ^ 32) : (luxData lux).toNat = lux := by
  rw [luxData, if_pos h, BitVec.toNat_ofNat, Nat.mod_eq_of_lt h]

/-- Settles O16: each step in the integers, the coefficients those of the band scan. -/
theorem luxConvertsTheCountsWithTheStoredSettings : Obligations.LuxConvertsTheCountsWithTheStoredSettings := by
  refine ⟨decode_lux Cfg.defaults, fun raw0 raw1 s => ?_⟩
  intro c chScale channel0 channel1 ratio known table
  have hratio : ratioOf c (channelOf c s.it s.g raw0) (channelOf c s.it s.g raw1) = ratio := by
    rw [ratioOf_eq_div, channelOf_eq, channelOf_eq]
  refine ⟨(coeffOf c s.it s.g s.pkg raw0 raw1).1, (coeffOf c s.it s.g s.pkg raw0 raw1).2, fun unknown => ?_,
    fun hknown => ⟨bandIndex table ratio, ?_, ?_, bandIndex_firstAdmitting table ratio⟩, ?_⟩
  · rw [coeffOf, coefficients_of_unknown unknown]
    exact ⟨rfl, rfl⟩
  · rw [coeffOf, hratio, coefficients_of_known hknown]
  · rw [coeffOf, hratio, coefficients_of_known hknown]
  · intro lux
    have hlux : luxOf c s.it s.g s.pkg raw0 raw1 = lux := by rw [luxOf_eq_div, channelOf_eq, channelOf_eq]
    exact ⟨luxData lux, luxData_toNat, hlux ▸ exec_lux raw0 raw1 s⟩

/-- Settles O21: the difference is clamped to 0, and the package is known since its coefficients are not both 0. -/
theorem underflowIsClampedToZero : Obligations.UnderflowIsClampedToZero := by
  intro raw0 raw1 s hc chScale channel0 channel1 coeff underflow
  have known : s.pkg = s.cfg.pkgCs ∨ s.pkg = s.cfg.pkgTfncl := by
    by_contra unknown
    rw [show coeff = (0, 0) from coefficients_of_unknown unknown _] at underflow
    exact Nat.lt_irrefl 0 underflow
  rw [exec_lux, if_pos known, luxOf_eq_zero _ _ _ _ _ hc (Nat.le_of_lt underflow)]
  rfl

/-- Settles O22: the scaled-out value is a quotient, so it is pinned by its two bounds. -/
theorem finalRoundingIsToNearestHalfUp : Obligations.FinalRoundingIsToNearestHalfUp := by
  intro c temp q hc
  simp only [scaleOut_roundUp, two_pow_luxScale hc]
  have half_pos : 0 < 2 ^ (c.luxScale - 1) := Nat.two_pow_pos _
  generalize 2 ^ (c.luxScale - 1) = half at *
  refine ⟨Nat.div_mul_le_self _ _, Nat.lt_mul_of_div_lt (Nat.lt_succ_self _) (by omega), ?_, ?_⟩
  · rw [Nat.add_assoc, ← Nat.two_mul, ← Nat.succ_mul, Nat.mul_div_cancel _ (by omega)]
  · have below : q * (2 * half) + half - 1 + half = 2 * half - 1 + q * (2 * half) := by omega
    rw [below, Nat.add_mul_div_right _ _ (by omega), Nat.div_eq_of_lt (by omega), Nat.zero_add]

/-- Settles O23: a channel 0 of 0 leaves nothing to subtract from. -/
theorem zeroBroadbandCountGivesZeroLux : Obligations.ZeroBroadbandCountGivesZeroLux := by
  intro raw1 s hs
  have hc : 1 ≤ s.cfg.luxScale := by rw [hs]; decide
  rw [exec_lux, luxOf_eq_zero _ _ _ _ _ hc (by rw [channelOf_zero, Nat.zero_mul]; exact Nat.zero_le _)]
  rfl

end Sys2Proof.Machine

/-! ### The greatest values under the default constants (R180)

No `B` of band 1 is above 516. A later band with a greater `B` is reached only past the threshold of the band before it,
and by then channel 1 is so great that its share, times `M`, takes the excess away. -/

namespace Sys2Proof.Machine

theorem default_chScale_le (it : BitVec 2) (g : BitVec 1) :
    gainAdjust Cfg.defaults g (chscaleOf Cfg.defaults it) ≤ 479600 := by
  revert it g
  decide

theorem default_product_le (it : BitVec 2) (g : BitVec 1) (raw : Word16) :
    raw.toNat * gainAdjust Cfg.defaults g (chscaleOf Cfg.defaults it) ≤ 31430586000 :=
  Nat.mul_le_mul (Nat.le_of_lt_succ raw.isLt) (default_chScale_le it g)

theorem default_channelOf_le (it : BitVec 2) (g : BitVec 1) (raw : Word16) :
    channelOf Cfg.defaults it g raw ≤ 30693931 := by
  rw [channelOf, normalize_eq_div]
  exact Nat.div_le_div_right (default_product_le it g raw)

/-- A ratio past a threshold bounds channel 1 from below (R168). -/
theorem mul_le_of_lt_ratioOf {c : Cfg} {channel0 channel1 k : Nat} (h : k < ratioOf c channel0 channel1) :
    (2 * k + 1) * channel0 ≤ channel1 * 2 ^ (c.ratioScale + 1) := by
  rw [ratioOf_eq_div] at h
  split at h
  · exact absurd h (Nat.not_lt_zero k)
  · exact (Nat.le_div_iff_mul_le (Nat.pos_of_ne_zero ‹_›)).mp (by omega)

/-- The ratio is no greater than the shifted channel 1 (R168). -/
theorem ratioOf_le_shifted (c : Cfg) (channel0 channel1 : Nat) :
    ratioOf c channel0 channel1 ≤ channel1 * 2 ^ (c.ratioScale + 1) := by
  rw [ratioOf_eq_div]
  split
  · exact Nat.zero_le _
  · have quotient := Nat.div_le_self (channel1 * 2 ^ (c.ratioScale + 1)) channel0
    omega

/-- The coefficients `(b, m)` are at most the tabulated greatest, and a `b` above 516 comes with an `m` that takes the
excess away once the ratio has passed a threshold `k`. -/
def CoeffBounds (ratio b m : Nat) : Prop :=
  b ≤ 642 ∧ m ≤ 1022 ∧ (b ≤ 516 ∨ ∃ k < ratio, 1024 * b ≤ 1024 * 516 + m * (2 * k + 1))

theorem default_bands_bounds : ∀ t ∈ [defaultTableCs, defaultTableTfncl], ∀ i : Fin 8,
    t[i].b ≤ 642 ∧ t[i].m ≤ 1022
      ∧ (t[i].b ≤ 516 ∨ ∃ j < i, 1024 * t[i].b ≤ 1024 * 516 + t[i].m * (2 * t[j].k + 1)) := by
  decide

theorem default_coefficients_bounds (pkg : BitVec 2) (ratio : Nat) :
    CoeffBounds ratio (coefficients Cfg.defaults pkg ratio).1 (coefficients Cfg.defaults pkg ratio).2 := by
  by_cases known : pkg = Cfg.defaults.pkgCs ∨ pkg = Cfg.defaults.pkgTfncl
  · rw [coefficients_of_known known]
    have listed : (if pkg = Cfg.defaults.pkgCs then Cfg.defaults.tableCs else Cfg.defaults.tableTfncl)
        ∈ [defaultTableCs, defaultTableTfncl] := by
      split
      · exact .head _
      · exact .tail _ (.head _)
    obtain ⟨hb, hm, excess⟩ := default_bands_bounds _ listed (bandIndex _ ratio)
    obtain ⟨-, passed⟩ := bandIndex_firstAdmitting _ ratio
    exact ⟨hb, hm, excess.imp_right fun ⟨j, hj, h⟩ => ⟨_, passed j hj, h⟩⟩
  · rw [coefficients_of_unknown known]
    exact ⟨by decide, by decide, .inl (by decide)⟩

/-- What is left of channel 0 after the infrared part is at most 516 times it. -/
theorem CoeffBounds.sub_le {channel0 channel1 b m : Nat}
    (h : CoeffBounds (ratioOf Cfg.defaults channel0 channel1) b m) :
    channel0 * b - channel1 * m ≤ 516 * channel0 := by
  obtain ⟨-, -, hb | ⟨k, hk, excess⟩⟩ := h
  · have scaled := Nat.mul_le_mul_left channel0 hb
    omega
  · have reached : (2 * k + 1) * channel0 ≤ channel1 * 1024 := mul_le_of_lt_ratioOf hk
    have scaled : 1024 * (channel0 * b) ≤ 1024 * (516 * channel0 + channel1 * m) := calc
      1024 * (channel0 * b) = 1024 * b * channel0 := by ring
      _ ≤ (1024 * 516 + m * (2 * k + 1)) * channel0 := Nat.mul_le_mul_right channel0 excess
      _ = 1024 * (516 * channel0) + m * ((2 * k + 1) * channel0) := by ring
      _ ≤ 1024 * (516 * channel0) + m * (channel1 * 1024) := Nat.add_le_add_left (Nat.mul_le_mul_left m reached) _
      _ = 1024 * (516 * channel0 + channel1 * m) := by ring
    omega

theorem default_luxOf_le (it : BitVec 2) (g : BitVec 1) (pkg : BitVec 2) (raw0 raw1 : Word16) :
    luxOf Cfg.defaults it g pkg raw0 raw1 ≤ 966679 := by
  have difference := (default_coefficients_bounds pkg _).sub_le (channel0 := channelOf Cfg.defaults it g raw0)
    (channel1 := channelOf Cfg.defaults it g raw1)
  have bound0 := default_channelOf_le it g raw0
  rw [luxOf_eq_div, coeffOf, show Cfg.defaults.luxScale = 14 from rfl]
  omega

/-- Settles O18: LUX answers the lux, which fits its 32 bits. -/
theorem defaultLuxNeverExceeds966679 : Obligations.DefaultLuxNeverExceeds966679 := by
  intro raw0 raw1 s hs
  have bound : luxOf s.cfg s.it s.g s.pkg raw0 raw1 ≤ 966679 := hs ▸ default_luxOf_le _ _ _ _ _
  exact ⟨_, _, exec_lux raw0 raw1 s, rfl, by rwa [luxData_toNat (by omega)]⟩

/-- Settles O19: each value is at most its tabulated greatest (R180). -/
theorem defaultDatapathFits36Bits : Obligations.DefaultDatapathFits36Bits := by
  intro it g pkg raw0 raw1 c chScale channel0 channel1 ratio coeff
  have product (raw : Word16) : raw.toNat * chScale < 2 ^ 36 :=
    Nat.lt_of_le_of_lt (default_product_le it g raw) (by decide)
  have h0 : channel0 ≤ 30693931 := default_channelOf_le it g raw0
  have h1 : channel1 ≤ 30693931 := default_channelOf_le it g raw1
  have shifted : channel1 <<< (c.ratioScale + 1) = channel1 * 1024 := Nat.shiftLeft_eq _ _
  have hratio : ratio ≤ channel1 * 1024 := ratioOf_le_shifted c channel0 channel1
  obtain ⟨hb, hm, -⟩ := default_coefficients_bounds pkg ratio
  have p0 : channel0 * coeff.1 ≤ 30693931 * 642 := Nat.mul_le_mul h0 hb
  have p1 : channel1 * coeff.2 ≤ 30693931 * 1022 := Nat.mul_le_mul h1 hm
  have rounded : roundUp c (clampedDiff (channel0 * coeff.1) (channel1 * coeff.2))
      = channel0 * coeff.1 - channel1 * coeff.2 + 8192 := by
    rw [clampedDiff_eq_sub]
    rfl
  refine ⟨product raw0, product raw1, ?_, ?_, ?_, ?_, ?_⟩ <;> omega

end Sys2Proof.Machine

/-! ### The other gain polarity (90_conflicts.md C1, R164)

Only the gain adjustment looks at `GAIN_LOW_CODE`. So the other polarity commutes with each line of every operation but
LUX, and in LUX it does what the other gain bit does. -/

namespace Sys2Proof.Machine

/-- Lines that act and call under the other polarity as under this one. -/
inductive PolarityBlind : List Line → Prop
  | nil : PolarityBlind []
  | act {f : State → State} {ls : List Line} (hf : ∀ s : State, f s.otherPolarity = (f s).otherPolarity)
      (hls : PolarityBlind ls) : PolarityBlind (.act f :: ls)
  | call {c : State → Option Call} {ret : Answer → Locals → Locals} {ls : List Line}
      (hc : ∀ s : State, c s.otherPolarity = c s) (hls : PolarityBlind ls) : PolarityBlind (.call c ret :: ls)

theorem State.otherPolarity_endCall (s : State) (x : Call) (ret : Answer → Locals → Locals) :
    s.otherPolarity.endCall x ret = (s.endCall x ret).otherPolarity := by
  cases x <;> rfl

namespace PolarityBlind

variable {ls : List Line}

theorem runLines_otherPolarity (h : PolarityBlind ls) (s : State) :
    runLines ls s.otherPolarity = (runLines ls s).otherPolarity := by
  induction h generalizing s with
  | nil => rfl
  | @act f ls hf _ ih =>
    rw [runLines_act, runLines_act, hf]
    exact ih (f s).advance
  | @call c ret ls hc _ ih =>
    rw [runLines_call, runLines_call, hc]
    have looks : s.otherPolarity.returnsNow = s.returnsNow := rfl
    cases c s with
    | none => exact ih s.advance
    | some x =>
      dsimp only
      rw [looks, State.otherPolarity_endCall]
      split
      · exact ih (s.endCall x ret)
      · rfl

/-! The lines that the operations share. -/

/-- A line that does one thing or another, as the local names say. -/
theorem ite {p : Locals → Prop} [∀ l, Decidable (p l)] {f g : State → State}
    (hf : ∀ s : State, f s.otherPolarity = (f s).otherPolarity)
    (hg : ∀ s : State, g s.otherPolarity = (g s).otherPolarity) (h : PolarityBlind ls) :
    PolarityBlind (.act (fun s => if p s.loc then f s else g s) :: ls) :=
  .act (fun s => (ite_congr rfl (fun _ => hf s) fun _ => hg s).trans (apply_ite State.otherPolarity _ _ _).symm) h

theorem busWrite {frame : State → List Byte} (hframe : ∀ s : State, frame s.otherPolarity = frame s)
    (h : PolarityBlind ls) : PolarityBlind (lineBusWrite frame :: ls) :=
  .call (fun s => congrArg (some <| Call.busWrite ·) (hframe s)) h

theorem memWrite {reg : Cfg → RegAddr} {v : State → Byte} (hreg : ∀ s : State, reg s.otherPolarity.cfg = reg s.cfg)
    (hv : ∀ s : State, v s.otherPolarity = v s) (h : PolarityBlind ls) : PolarityBlind (memWriteLines reg v ++ ls) :=
  .busWrite (fun s => congrArg₂ (writeFrame s.cfg) (hreg s) (hv s)) <|
    .ite (p := (·.ok = true)) (fun _ => rfl) (fun _ => rfl) h

theorem powerUp (h : PolarityBlind ls) : PolarityBlind (powerUpLines ++ ls) := h.memWrite (fun _ => rfl) fun _ => rfl

theorem powerDown (h : PolarityBlind ls) : PolarityBlind (powerDownLines ++ ls) :=
  h.memWrite (fun _ => rfl) fun _ => rfl

theorem memRead8 {reg : Cfg → RegAddr} (hreg : ∀ s : State, reg s.otherPolarity.cfg = reg s.cfg)
    (h : PolarityBlind ls) : PolarityBlind (memRead8Lines reg ++ ls) :=
  .busWrite (fun s => congrArg (readFrame8 s.cfg) (hreg s)) <|
    .ite (p := (·.ok = true)) (fun _ => rfl) (fun _ => rfl) <|
    .call (fun _ => rfl) <| .ite (p := fun l => (l.ok && l.byte.isNone) = true) (fun _ => rfl) (fun _ => rfl) h

theorem memRead16 {reg : Cfg → RegAddr} (hreg : ∀ s : State, reg s.otherPolarity.cfg = reg s.cfg)
    (h : PolarityBlind ls) : PolarityBlind (memRead16Lines reg ++ ls) :=
  .busWrite (fun s => congrArg (readFrame16 s.cfg) (hreg s)) <|
    .ite (p := (·.ok = true)) (fun _ => rfl) (fun _ => rfl) <|
    .call (fun _ => rfl) <| .ite (p := fun l => (l.ok && l.word.isNone) = true) (fun _ => rfl) (fun _ => rfl) h

theorem last {f : State → State} (hf : ∀ s : State, f s.otherPolarity = (f s).otherPolarity) : PolarityBlind [.act f] :=
  .act hf .nil

end PolarityBlind

/-- No operation but LUX looks at the polarity. -/
theorem polarityBlind_linesOf {i : Instr} (hi : ∀ raw0 raw1, i ≠ .lux raw0 raw1) : PolarityBlind (linesOf i) := by
  -- What a line does or names under the other polarity computes to what it does or names under this one.
  have same {α : Type} {a : State → α} : ∀ s, a s = a s := fun _ => rfl
  cases i <;> simp only [linesOf, wrregLines, rdregLines, rdreg16Lines, enableLines, disableLines, initLines,
    setitLines, setgainLines, rdchanLines, luxLines, frameWriteLines, frameRead8Lines, frameRead16Lines,
    List.append_assoc, List.cons_append, List.nil_append]
  case wrreg => exact .memWrite same same <| .last same
  case rdreg => exact .memRead8 same <| .last same
  case rdreg16 => exact .memRead16 same <| .last same
  case enable => exact .powerUp <| .last same
  case disable => exact .powerDown <| .last same
  case init =>
    exact .powerUp <| .memRead8 same <| .ite (p := fun l => powerBit (orZero l.byte) = 0#1) same same <|
      .memRead8 same <| .act same <| .memRead8 same <| .act same <| .act same <| .powerDown <| .last same
  case setit => exact .act same <| .powerUp <| .memWrite same same <| .powerDown <| .act same <| .last same
  case setgain => exact .act same <| .powerUp <| .memWrite same same <| .powerDown <| .act same <| .last same
  case rdchan =>
    exact .act same <| .powerUp <| .call same <| .memRead16 same <| .act same <| .memRead16 same <| .act same <|
      .powerDown <| .last same
  case lux raw0 raw1 => exact absurd rfl (hi raw0 raw1)
  case frameWrite => exact .memWrite same same <| .last same
  case frameRead8 => exact .memRead8 same <| .last same
  case frameRead16 => exact .memRead16 same <| .last same

/-- The gain is low under the other polarity when it is low with the other gain bit under this one (R22). -/
theorem gainIsLow_otherPolarity (s : State) (g : BitVec 1) :
    gainIsLow s.otherPolarity.cfg g = gainIsLow s.cfg (~~~g) := by
  have exchange : ∀ g x : BitVec 1, (g == ~~~x) = (~~~g == x) := by decide
  exact exchange g s.cfg.gainLowCode

theorem gainAdjust_otherPolarity (s : State) (g : BitVec 1) :
    gainAdjust s.otherPolarity.cfg g = gainAdjust s.cfg (~~~g) := by
  funext chScale
  rw [gainAdjust, gainAdjust, gainIsLow_otherPolarity]

/-- The conversion looks at the polarity in its gain adjustment only (R164). -/
theorem luxOf_otherPolarity (s : State) (it : BitVec 2) (g : BitVec 1) (pkg : BitVec 2) (raw0 raw1 : Word16) :
    luxOf s.otherPolarity.cfg it g pkg raw0 raw1 = luxOf s.cfg it (~~~g) pkg raw0 raw1 := by
  unfold luxOf
  rw [gainAdjust_otherPolarity]
  rfl

/-- Settles O24: the lines of the other operations are blind to the polarity, and the conversion exchanges the gain
bits. -/
theorem gainPolarityOnlyExchangesTheGainBit : Obligations.GainPolarityOnlyExchangesTheGainBit := by
  refine ⟨fun i s t hi h => ?_, fun raw0 raw1 s t h => ?_⟩
  · rw [exec_eq_runLines] at h ⊢
    cases h
    exact congrArg _ ((polarityBlind_linesOf hi).runLines_otherPolarity (s.accept i))
  · rw [exec_lux] at h ⊢
    cases h
    rw [luxOf_otherPolarity]
    rfl

end Sys2Proof.Machine

/-! ### Every failed call is reported (R192, R193, R201)

A bus call is followed by the line that reports its failure, and the power check and the package check raise no bus
diagnostic. `Reporting` says so of lines, so what they add to the trace, run from inside an operation, reports every
failure, and a block that is blocked stands at a call, from where its lines are such lines again. -/

namespace Sys2Proof.Machine

/-- The diagnostic that an operation raises beside those of its register accesses (R194, R195). -/
def ownDiag : Instr → Option Diag
  | .init => some .initPower
  | .lux _ _ => some .pkgUnknown
  | _ => none

/-- The diagnostics that an operation can raise (R192 to R195). -/
def MayRaise (i : Instr) (d : Diag) : Prop := d = .busWriteFail ∨ d = .busReadFail ∨ ownDiag i = some d

/-- Events of the operation `i` that report every failure among them and have no other bus diagnostic, not even as the
first of them. -/
structure Reported (i : Instr) (es : List Event) : Prop where
  matched : DiagsMatchFailures (.delay 0 :: es)
  raised : ∀ d, .diag d ∈ es → MayRaise i d

/-- A call with its answer, as it enters the trace. -/
def Call.event (s : State) : Call → Event
  | .busWrite f => .busWrite s.addr f s.nextAnswer.ok
  | .busRead n => .busRead s.addr n (State.bytesRead s.nextAnswer n)
  | .delay d => .delay d

/-- The diagnostic that a call asks for, as it enters the trace. -/
def Event.report (e : Event) : List Event := (e.demands.map Event.diag).toList

/-! ### Traces that report every failure -/

@[simp] theorem Event.demands_delay (d : Nat) : (Event.delay d).demands = none := rfl

@[simp] theorem Event.demands_diag (d : Diag) : (Event.diag d).demands = none := rfl

/-- What a failed call asks for is a bus diagnostic. -/
theorem Event.demands_eq_some {e : Event} {d : Diag} (h : e.demands = some d) :
    d = .busWriteFail ∨ d = .busReadFail := by
  unfold demands at h
  split at h
  case h_2 => split at h <;> cases h <;> simp
  case h_3 => cases h; exact .inr rfl
  all_goals cases h

theorem Call.event_isDiag (s : State) (x : Call) : (x.event s).isDiag = false := by
  cases x <;> rfl

/-- Where all failures are reported, more events of that kind may follow. -/
theorem DiagsMatchFailures.append {e : Event} {es fs : List Event} (h : DiagsMatchFailures (e :: es))
    (h' : DiagsMatchFailures (.delay 0 :: fs)) : DiagsMatchFailures (e :: (es ++ fs)) := by
  obtain ⟨reported, elsewhere, hes⟩ := h
  induction es generalizing e with
  | nil =>
    obtain ⟨-, first, hfs⟩ := h'
    exact ⟨fun d hd => (nomatch reported d hd), fun _ => first rfl, hfs⟩
  | cons e' es ih =>
    obtain ⟨reported', elsewhere', hes⟩ := hes
    exact ⟨reported, elsewhere, ih reported' elsewhere' hes⟩

namespace Reported

variable {i : Instr} {es fs : List Event}

theorem nil : Reported i [] := ⟨by simp [DiagsMatchFailures], nofun⟩

theorem append (h : Reported i es) (h' : Reported i fs) : Reported i (es ++ fs) where
  matched := h.matched.append h'.matched
  raised d hd := (List.mem_append.mp hd).elim (h.raised d) (h'.raised d)

/-- The diagnostic that an operation raises itself is none of the bus. -/
theorem own {d : Diag} (hd : ownDiag i = some d) : Reported i [.diag d] where
  matched := by
    cases i with
    | init | lux => cases hd; simp [DiagsMatchFailures]
    | _ => cases hd
  raised d' hd' := by
    cases List.mem_singleton.mp hd'
    exact .inr (.inr hd)

/-- A call and the diagnostic it asks for. -/
theorem report {e : Event} (he : e.isDiag = false) : Reported i (e :: e.report) := by
  have hdiag (d : Diag) : e ≠ .diag d := by
    rintro rfl
    cases he
  unfold Event.report
  cases hd : e.demands with
  | none => exact ⟨by simp [DiagsMatchFailures, hd, hdiag], by simp [(hdiag _).symm]⟩
  | some d =>
    refine ⟨by simp [DiagsMatchFailures, hd, hdiag], fun d' hd' => ?_⟩
    obtain rfl : d' = d := by simpa [(hdiag _).symm] using hd'
    exact (Event.demands_eq_some hd).elim .inl fun h => .inr (.inl h)

end Reported

/-! ### Lines that report every failure -/

/-- An act of the operation `i` that adds no event but the operation's own diagnostic. -/
structure Quiet (i : Instr) (f : State → State) : Prop where
  busy : ∀ s, s.busy = true → (f s).busy = true
  trace : ∀ s, (f s).trace = s.trace ∨ ∃ d, ownDiag i = some d ∧ (f s).trace = s.trace ++ [.diag d]

/-- The act `g` on the line after a call raises the diagnostic that the answered call asks for, and none where the call
was branched around. -/
structure Reports (c : State → Option Call) (ret : Answer → Locals → Locals) (g : State → State) : Prop where
  busy : ∀ s, s.busy = true → (g s).busy = true
  skipped : ∀ s, s.busy = true → c s = none → (g s.advance).trace = s.trace
  answered : ∀ s x, s.busy = true → c s = some x →
    (g (s.endCall x ret)).trace = (s.endCall x ret).trace ++ (x.event s).report

/-- Lines of the operation `i` in which the line after every bus call reports it. The last one, which may end the
operation, adds no event. -/
inductive Reporting (i : Instr) : List Line → Prop
  | last {f : State → State} (hf : ∀ s, (f s).trace = s.trace) : Reporting i [.act f]
  | act {f : State → State} {ls : List Line} (hf : Quiet i f) (hls : Reporting i ls) : Reporting i (.act f :: ls)
  | delay {d : State → Nat} {ls : List Line} (hls : Reporting i ls) : Reporting i (lineDelay d :: ls)
  | call {c : State → Option Call} {ret : Answer → Locals → Locals} {g : State → State} {ls : List Line}
      (hg : Reports c ret g) (hls : Reporting i ls) : Reporting i (.call c ret :: .act g :: ls)

namespace State

variable {s : State}

@[simp] theorem advance_busy (s : State) : s.advance.busy = s.busy := Option.isSome_map

@[simp] theorem setLoc_busy (s : State) (l : Locals) : (s.setLoc l).busy = s.busy := Option.isSome_map

@[simp] theorem complete_busy (s : State) (x : Call) : (s.complete x).busy = s.busy := by rw [busy, complete_run, busy]

@[simp] theorem endCall_busy (s : State) (x : Call) (ret : Answer → Locals → Locals) :
    (s.endCall x ret).busy = s.busy := by
  rw [endCall, advance_busy, setLoc_busy, complete_busy]

@[simp] theorem advance_loc (s : State) : s.advance.loc = s.loc := by
  rw [loc, loc, advance_run]
  cases s.run <;> rfl

/-- The local names of an operation in flight are what was written to them. -/
theorem loc_setLoc (h : s.busy = true) (l : Locals) : (s.setLoc l).loc = l := by
  obtain ⟨r, hr⟩ := Option.isSome_iff_exists.mp h
  rw [loc, setLoc_run, hr, Option.map_some]

theorem endCall_loc (h : s.busy = true) (x : Call) (ret : Answer → Locals → Locals) :
    (s.endCall x ret).loc = ret s.nextAnswer s.loc := by
  rw [endCall, advance_loc, loc_setLoc (by simp [h])]

theorem endCall_trace (s : State) (x : Call) (ret : Answer → Locals → Locals) :
    (s.endCall x ret).trace = s.trace ++ [x.event s] := by
  cases x <;> rfl

end State

/-! ### The acts of the operations -/

namespace Quiet

variable {i : Instr}

theorem lineSet (f : State → Locals) : Quiet i fun s => s.setLoc (f s) :=
  ⟨fun s h => (s.setLoc_busy _).trans h, fun _ => .inl rfl⟩

theorem writeG (v : State → BitVec 1) : Quiet i fun s => s.writeG (v s) := ⟨fun _ => id, fun _ => .inl rfl⟩

theorem writeIT (v : State → BitVec 2) : Quiet i fun s => s.writeIT (v s) := ⟨fun _ => id, fun _ => .inl rfl⟩

theorem writePKG (v : State → BitVec 2) : Quiet i fun s => s.writePKG (v s) := ⟨fun _ => id, fun _ => .inl rfl⟩

/-- A check of the operation's own that raises its diagnostic or not. -/
theorem check {d : Diag} (hd : ownDiag i = some d) (p : State → Prop) [∀ s, Decidable (p s)] :
    Quiet i fun s => if p s then s.diag d else s where
  busy s h := by split <;> exact h
  trace s := by
    split
    · exact .inr ⟨d, hd, rfl⟩
    · exact .inl rfl

end Quiet

/-! ### The lines that report a call -/

namespace Reports

/-- A frame, and an act that raises the diagnostic of such frames where the frame failed and no other. -/
theorem busWrite {frame : State → List Byte} {d : Diag} {g : State → State}
    (hd : ∀ s, (if (frame s).length = 2 then Diag.busWriteFail else .busReadFail) = d)
    (hbusy : ∀ s, s.busy = true → (g s).busy = true) (hok : ∀ s, s.loc.ok = true → (g s).trace = s.trace)
    (hfail : ∀ s, s.loc.ok = false → (g s).trace = s.trace ++ [.diag d]) :
    Reports (fun s => some (.busWrite (frame s))) (fun a l => { l with ok := a.ok }) g where
  busy := hbusy
  skipped _ _ hc := nomatch hc
  answered s x h hc := by
    cases hc
    have hloc := congrArg Locals.ok (State.endCall_loc h (.busWrite (frame s)) fun a l => { l with ok := a.ok })
    cases hans : s.nextAnswer.ok with
    | true =>
      rw [hok _ (hloc.trans hans)]
      simp [Event.report, Call.event, Event.demands, hans]
    | false =>
      rw [hfail _ (hloc.trans hans)]
      simp [Event.report, Call.event, Event.demands, hans, hd]

/-- The frame of a write, and the line that reports its failure (R54, R192). -/
theorem write {frame : State → List Byte} (hlen : ∀ s, (frame s).length = 2) :
    Reports (fun s => some (.busWrite (frame s))) (fun a l => { l with ok := a.ok })
      fun s => if s.loc.ok then s else s.diag .busWriteFail := by
  refine .busWrite (fun s => if_pos (hlen s)) (fun s h => ?_) (fun s h => ?_) fun s h => ?_
  · split <;> exact h
  · rw [if_pos h]
  · simp [h]

/-- The command byte of a read, and the line that gives the read up (R55, R56, R193). -/
theorem command {frame : State → List Byte} (hlen : ∀ s, (frame s).length = 1) (l : State → Locals) :
    Reports (fun s => some (.busWrite (frame s))) (fun a l => { l with ok := a.ok })
      fun s => if s.loc.ok then s else (s.diag .busReadFail).setLoc (l s) := by
  refine .busWrite (d := .busReadFail) (fun s => if_neg (by simp [hlen])) (fun s h => ?_) (fun s h => ?_)
    fun s h => ?_
  · split
    · exact h
    · exact (State.setLoc_busy _ _).trans h
  · rw [if_pos h]
  · simp [h]

/-- The read of a register, branched around where the command byte failed, and the line that reports its failure (R55,
R56, R193); `v` is the local name that the read goes to. -/
theorem busRead {α : Type} {n : Nat} {v : Locals → Option α} {ret : Answer → Locals → Locals}
    (hok : ∀ a l, (ret a l).ok = l.ok) (hv : ∀ a l, (v (ret a l)).isNone = (State.bytesRead a n).isNone) :
    Reports (fun s => if s.loc.ok then some (.busRead n) else none) ret
      fun s => if s.loc.ok && (v s.loc).isNone then s.diag .busReadFail else s where
  busy s h := by split <;> exact h
  skipped s _ hc := by
    have hno : ¬ s.loc.ok = true := fun hok => nomatch (if_pos hok).symm.trans hc
    simp [hno]
  answered s x h hc := by
    obtain ⟨hcall, hx⟩ := Option.ite_none_right_eq_some.mp hc
    cases hx
    rw [State.endCall_loc h, hok, hcall, hv]
    cases hd : State.bytesRead s.nextAnswer n <;> simp [Event.report, Call.event, Event.demands, hd]

end Reports

namespace Reporting

variable {i : Instr} {ls : List Line}

theorem set {f : State → Locals} (h : Reporting i ls) : Reporting i (lineSet f :: ls) := .act (.lineSet f) h

theorem memWrite {reg : Cfg → RegAddr} {v : State → Byte} (h : Reporting i ls) :
    Reporting i (memWriteLines reg v ++ ls) :=
  .call (.write fun _ => rfl) h

theorem powerUp (h : Reporting i ls) : Reporting i (powerUpLines ++ ls) := h.memWrite

theorem powerDown (h : Reporting i ls) : Reporting i (powerDownLines ++ ls) := h.memWrite

theorem memRead8 {reg : Cfg → RegAddr} (h : Reporting i ls) : Reporting i (memRead8Lines reg ++ ls) :=
  .call (.command (fun _ => rfl) _) <| .call (.busRead (v := Locals.byte) (fun _ _ => rfl) fun a l => by
    cases hok : a.ok <;> simp [State.bytesRead, hok]) h

theorem memRead16 {reg : Cfg → RegAddr} (h : Reporting i ls) : Reporting i (memRead16Lines reg ++ ls) :=
  .call (.command (fun _ => rfl) _) <| .call (.busRead (v := Locals.word) (fun _ _ => rfl) fun a l => by
    cases hok : a.ok <;> simp [State.bytesRead, hok]) h

end Reporting

theorem reporting_linesOf (i : Instr) : Reporting i (linesOf i) := by
  -- The line that ends an operation computes to one that adds no event.
  have same : ∀ s : State, s.trace = s.trace := fun _ => rfl
  cases i <;> simp only [linesOf, wrregLines, rdregLines, rdreg16Lines, enableLines, disableLines, initLines,
    setitLines, setgainLines, rdchanLines, luxLines, frameWriteLines, frameRead8Lines, frameRead16Lines,
    List.append_assoc, List.cons_append, List.nil_append]
  case wrreg => exact .memWrite <| .last same
  case rdreg => exact .memRead8 <| .last same
  case rdreg16 => exact .memRead16 <| .last same
  case enable => exact .powerUp <| .last same
  case disable => exact .powerDown <| .last same
  case init =>
    exact .powerUp <| .memRead8 <| .act (.check rfl _) <| .memRead8 <| .act (.writePKG _) <| .memRead8 <|
      .act (.writeG _) <| .act (.writeIT _) <| .powerDown <| .last same
  case setit => exact .set <| .powerUp <| .memWrite <| .powerDown <| .act (.writeIT _) <| .last same
  case setgain => exact .set <| .powerUp <| .memWrite <| .powerDown <| .act (.writeG _) <| .last same
  case rdchan =>
    exact .set <| .powerUp <| .delay <| .memRead16 <| .set <| .memRead16 <| .set <| .powerDown <| .last same
  case lux =>
    exact .set <| .set <| .set <| .set <| .set <| .set <| .set <| .set <| .act (.check rfl _) <| .set <| .set <|
      .set <| .set <| .set <| .last same
  case frameWrite => exact .memWrite <| .last same
  case frameRead8 => exact .memRead8 <| .last same
  case frameRead16 => exact .memRead16 <| .last same

/-! ### What reporting lines add -/

/-- From `s` to `t` the operation `i` has added events, and every failure among them is reported. -/
def AddsReported (i : Instr) (s t : State) : Prop := ∃ es, t.trace = s.trace ++ es ∧ Reported i es

namespace AddsReported

variable {i : Instr} {s t u : State}

theorem of_eq (h : t.trace = s.trace) : AddsReported i s t := ⟨[], by rw [h, List.append_nil], .nil⟩

theorem trans (h : AddsReported i s t) (h' : AddsReported i t u) : AddsReported i s u := by
  obtain ⟨es, ht, hes⟩ := h
  obtain ⟨fs, hu, hfs⟩ := h'
  exact ⟨es ++ fs, by rw [hu, ht, List.append_assoc], hes.append hfs⟩

end AddsReported

theorem Quiet.addsReported {i : Instr} {f : State → State} (hf : Quiet i f) (s : State) : AddsReported i s (f s) := by
  obtain h | ⟨d, hd, h⟩ := hf.trace s
  · exact .of_eq h
  · exact ⟨_, h, .own hd⟩

/-- An answered call and the line that reports it. -/
theorem Reports.addsReported {i : Instr} {c : State → Option Call} {ret : Answer → Locals → Locals}
    {g : State → State} (hg : Reports c ret g) {s : State} {x : Call} (h : s.busy = true) (hx : c s = some x) :
    AddsReported i s (g (s.endCall x ret)) :=
  ⟨_, by rw [hg.answered s x h hx, State.endCall_trace, List.append_assoc, List.singleton_append],
    .report (x.event_isDiag s)⟩

namespace Reporting

variable {i : Instr} {ls : List Line}

/-- Run from inside an operation, reporting lines report every failure. -/
theorem addsReported (h : Reporting i ls) {s : State} (hs : s.busy = true) : AddsReported i s (runLines ls s) := by
  induction h generalizing s with
  | last hf => exact .of_eq (hf s)
  | @act f ls hf _ ih =>
    rw [runLines_act]
    exact (hf.addsReported s).trans (ih (s := (f s).advance) (by simp [hf.busy, hs]))
  | @delay d ls _ ih =>
    rw [lineDelay, runLines_call]
    dsimp only
    split
    · have waited : AddsReported i s (s.endCall (.delay (d s)) fun _ l => l) :=
        ⟨_, s.endCall_trace _ _, .report (e := .delay (d s)) rfl⟩
      exact waited.trans (ih (by simp [hs]))
    · exact .of_eq rfl
  | @call c ret g ls hg _ ih =>
    rw [runLines_call]
    split
    next hc =>
      have skipped : AddsReported i s (g s.advance) := .of_eq (hg.skipped s hs hc)
      exact skipped.trans (ih (s := (g s.advance).advance) (by simp [hg.busy, hs]))
    next x hx =>
      split
      · exact (hg.addsReported hs hx).trans (ih (s := (g (s.endCall x ret)).advance) (by simp [hg.busy, hs]))
      · exact .of_eq rfl

/-- From a line that calls on, reporting lines are such lines again. -/
theorem drop_of_call (h : Reporting i ls) {k : Nat} {c : State → Option Call} {ret : Answer → Locals → Locals}
    (hl : ls[k]? = some (.call c ret)) : Reporting i (ls.drop k) := by
  induction h generalizing k with
  | last hf =>
    match k with
    | 0 => cases hl
  | act hf hls ih =>
    match k with
    | k + 1 => exact ih hl
  | delay hls ih =>
    match k with
    | 0 => exact .delay hls
    | k + 1 => exact ih hl
  | call hg hls ih =>
    match k with
    | 0 => exact .call hg hls
    | k + 2 => exact ih hl

end Reporting

theorem exec_addsReported {i : Instr} {s t : State} (h : exec i s = .next t) : AddsReported i s t := by
  rw [exec_eq_runLines] at h
  cases h
  exact (reporting_linesOf i).addsReported (s := s.accept i) rfl

/-- What a step of an idle or blocked block adds to the trace reports every failure. -/
theorem step_addsReported {s t : State} (hs : s.Settled) (h : step s = .next t) : ∃ i, AddsReported i s t := by
  obtain ⟨r, hr, -, rfl⟩ | ⟨-, -, rfl⟩ | ⟨w, rest, -, -, ⟨i, -, rfl⟩ | ⟨-, rfl⟩⟩ := step_eq_next h
  · obtain hidle | ⟨x, hx⟩ := hs
    · rw [hr] at hidle
      cases hidle
    · obtain ⟨r', c, ret, hr', hl, -, -⟩ := State.pendingCall_eq_some hx
      cases hr.symm.trans hr'
      exact ⟨r.op, ((reporting_linesOf r.op).drop_of_call hl).addsReported (congrArg Option.isSome hr)⟩
  · exact ⟨.lux 0 0, .of_eq rfl⟩
  · exact ⟨i, (reporting_linesOf i).addsReported (s := State.accept { s with requests := rest } i) rfl⟩
  · exact ⟨.lux 0 0, .of_eq rfl⟩

/-- Settles O34: the trace of a settled block reports every failure, and so does what its step adds. -/
theorem failedCallsAreFollowedByTheirDiagnostic : Obligations.FailedCallsAreFollowedByTheirDiagnostic := by
  intro s t hs htrace hstep
  obtain ⟨-, -, hsettled⟩ := stepKeepsAddressAndParametersAndEndsIdleOrWaiting s t hstep
  obtain ⟨i, es, ht, hes⟩ := step_addsReported hs hstep
  exact ⟨hsettled, ht ▸ htrace.append hes.matched⟩

end Sys2Proof.Machine

/-! ### The package that is unknown (R186, R195)

Of all operations only LUX can raise `PKG_UNKNOWN`, and LUX is one next state. -/

namespace Sys2Proof.Machine

theorem ownDiag_eq_pkgUnknown {i : Instr} (h : ownDiag i = some .pkgUnknown) : ∃ raw0 raw1, i = .lux raw0 raw1 := by
  cases i with
  | lux raw0 raw1 => exact ⟨raw0, raw1, rfl⟩
  | _ => cases h

/-- An operation other than LUX raises no `PKG_UNKNOWN` (R195). -/
theorem Reported.pkgUnknown_not_mem {i : Instr} {es : List Event} (h : Reported i es)
    (hi : ∀ raw0 raw1, i ≠ .lux raw0 raw1) : .diag .pkgUnknown ∉ es := by
  intro hmem
  obtain hd | hd | hd := h.raised _ hmem
  · cases hd
  · cases hd
  · obtain ⟨raw0, raw1, rfl⟩ := ownDiag_eq_pkgUnknown hd
    exact hi raw0 raw1 rfl

/-- Where the package is unknown, both coefficients are 0 and so is the lux (R186). -/
theorem luxOf_of_unknown {c : Cfg} {pkg : BitVec 2} (hc : 1 ≤ c.luxScale) (h : ¬ (pkg = c.pkgCs ∨ pkg = c.pkgTfncl))
    (it : BitVec 2) (g : BitVec 1) (raw0 raw1 : Word16) : luxOf c it g pkg raw0 raw1 = 0 := by
  refine luxOf_eq_zero _ _ _ _ _ hc ?_
  rw [coeffOf, coefficients_of_unknown h, Nat.mul_zero, Nat.mul_zero]

/-- Settles O17: LUX adds the package's diagnostic alone, and no other operation raises it. -/
theorem unknownPackageIsReportedByLuxAloneAndGivesZero :
    Obligations.UnknownPackageIsReportedByLuxAloneAndGivesZero := by
  refine ⟨fun raw0 raw1 s hc hcs htfncl => ?_, fun i s t h hi => ?_⟩
  · have unknown : ¬ (s.pkg = s.cfg.pkgCs ∨ s.pkg = s.cfg.pkgTfncl) := not_or.mpr ⟨hcs, htfncl⟩
    rw [exec_lux, if_neg unknown, luxOf_of_unknown hc unknown]
    rfl
  · by_cases hlux : ∃ raw0 raw1, i = .lux raw0 raw1
    · obtain ⟨raw0, raw1, rfl⟩ := hlux
      have known := hi.resolve_left fun h => h raw0 raw1 rfl
      rw [exec_lux, if_pos known] at h
      cases h
      exact congrArg _ (List.append_nil _)
    · obtain ⟨es, ht, hes⟩ := exec_addsReported h
      have none_added := hes.pkgUnknown_not_mem fun raw0 raw1 hi => hlux ⟨raw0, raw1, hi⟩
      rw [ht, List.count_append, List.count_eq_zero.mpr none_added, Nat.add_zero]

end Sys2Proof.Machine

/-! ### Reset (R220, R221) -/

namespace Sys2Proof.Machine

/-- Reset unwrites every device register, so an operation that reads one at all reads an unwritten one (R25, R221). -/
theorem readsUnwritten_applyReset_iff (s : State) (i : Instr) :
    s.applyReset.ReadsUnwritten i ↔ i.readsG = true ∨ i.readsIT = true ∨ i.readsPKG = true := by
  simp [State.ReadsUnwritten, State.applyReset]

/-- Settles O28: reset sets `run` and the three registers and no other field, SETIT reads `G`, SETGAIN and RDCHAN read
`IT`, and LUX reads all three. -/
theorem resetAbandonsTheOperationAndUnwritesTheRegisters :
    Obligations.ResetAbandonsTheOperationAndUnwritesTheRegisters := by
  intro s it g raw0 raw1
  have reads (i : Instr) := (readsUnwritten_applyReset_iff s i).mpr
  exact ⟨rfl, rfl, rfl, rfl, rfl, rfl, rfl, rfl, rfl, rfl, rfl, rfl,
    reads _ (.inl rfl), reads _ (.inr (.inl rfl)), reads _ (.inr (.inl rfl)), reads _ (.inl rfl)⟩

end Sys2Proof.Machine
